-- ==== Sys2Proof/Word.lean ====
section
/-! DEFINITION. The words the registers hold (spec/00_scope.md R10, R11). -/
namespace Sys2Proof

/-- A byte of the instruction memory. -/
abbrev Byte := BitVec 8
/-- The width of every PMU register but three, of an instruction and of an external access (00_scope R10). -/
abbrev W32 := BitVec 32
/-- The width of an AArch64 general register, of PMCCNTR_EL0, PMCEID0_EL0 and PMCEID1_EL0 (00_scope R10). -/
abbrev W64 := BitVec 64

end Sys2Proof
end

