-- ==== Sys2Proof/Config.lean ====
section
/-! DEFINITION. The implementation parameters of spec/00_scope.md R9, as plain data, and the free values: opaque
constants without a body, of which nothing can be proved. Log entries 1 and 5. -/
namespace Sys2Proof

/-- Which Execution states an Exception level can use (00_scope R9, `EL_uses_AArch32`). -/
inductive ExecSupport where
  | aarch64Only
  | aarch32Only
  | both
  deriving DecidableEq, Repr

/-- The parameter `CU_COUNTER_ACCESS` (00_scope R9; 40_aarch64 R383; 93 U3). -/
inductive CuChoice where
  | undefinedOrTrap
  | razWi
  | nop
  | selUnknown
  | sel31
  deriving DecidableEq, Repr

/-- The parameter `ExtSWINC` (00_scope R9; 42_external R495; 93 U15). -/
inductive ExtSwincChoice where
  | absent
  | never
  | always
  | draw
  deriving DecidableEq, Repr

/-- The parameter `SPMAD_OnMemMapped` (00_scope R9; 42_external R486; 93 U13). -/
inductive SpmadChoice where
  | set
  | unchanged
  | draw
  deriving DecidableEq, Repr

/-- The parameter `PMITCTRL_Domain` (00_scope R9; 70_reset R653; 42_external R484). -/
inductive ItctrlDomain where
  | absent
  | core
  | debug
  deriving DecidableEq, Repr

/-- The parameter `CondPresentation` (00_scope R9; 60_exceptions R605; 93 U17). -/
inductive CondPresentation where
  | asEncoded
  | alwaysAL
  deriving DecidableEq, Repr

/-- The parameters of spec/00_scope.md R9, fixed before reset and constant afterwards. `ArchVersion` is ARMv8.2
(92 D1); PMCFGR.EX and PMCFGR.CCD are derived (13_external R222). -/
structure Config where
  /-- `N`, the number of event counters, 0 to 31. -/
  n : Fin 32
  /-- `IMP`. -/
  imp : BitVec 8
  /-- `IDCODE`. -/
  idcode : BitVec 8
  /-- `HaveEL2`. -/
  haveEL2 : Bool
  /-- `HaveEL3`. -/
  haveEL3 : Bool
  /-- The Execution states EL0, EL1, EL2 and EL3 can use. -/
  el0Exec : ExecSupport
  el1Exec : ExecSupport
  el2Exec : ExecSupport
  el3Exec : ExecSupport
  /-- `SecureWhenNoEL3`. -/
  secureWhenNoEL3 : Bool
  /-- `HaveEventBus`. -/
  haveEventBus : Bool
  /-- `IsMultithreaded`. -/
  isMultithreaded : Bool
  /-- `EventSupported`: the event numbers that are implemented. -/
  events : List (BitVec 16)
  /-- `UnsupportedEventCounts(e)`: the event numbers e that, unsupported, count a free choice and read back a free value;
  the other unsupported numbers count nothing and read back as written (11_pmu R130; 92 D13; 93 U9, U10; log 26). -/
  openEvents : List (BitVec 16)
  /-- `CU_COUNTER_ACCESS`. -/
  cuCounterAccess : CuChoice
  /-- `HaveExternalPMU`. -/
  haveExternalPMU : Bool
  /-- `HaveMemMappedAccess`. -/
  haveMemMapped : Bool
  /-- `SoftwareLockImplemented`. -/
  softwareLock : Bool
  /-- `PMU_BASE`. -/
  pmuBase : W64
  /-- `PCSample`: PMDEVID.PCSample is 1. -/
  pcSample : Bool
  /-- `PMPCSR64BitAtomic`. -/
  pmpcsr64 : Bool
  /-- Whether 16-bit VMIDs are supported (13_external R255). -/
  vmid16 : Bool
  /-- `PMITCTRL_Domain`. -/
  itctrlDomain : ItctrlDomain
  /-- `ExtSWINC`. -/
  extSwinc : ExtSwincChoice
  /-- `SPMAD_OnMemMapped`. -/
  spmadOnMemMapped : SpmadChoice
  /-- `AuthSignals.EPMADOverride`. -/
  epmadOverride : Bool
  /-- `AuthSignals`: ExternalSecureNoninvasiveDebugEnabled(). -/
  secureNonInvasive : Bool
  /-- `AuthSignals`: ExternalNoninvasiveDebugEnabled(). -/
  nonSecureNonInvasive : Bool
  /-- `CondPresentation`. -/
  condPresentation : CondPresentation
  /-- `T32_CV`. -/
  t32CV : Bool
  /-- `DEVAFF`: MPIDR_EL1.Aff3 to Aff0 and U (12_context R210). -/
  aff3 : BitVec 8
  aff2 : BitVec 8
  aff1 : BitVec 8
  aff0 : BitVec 8
  uniprocessor : Bool
  /-- `PIDR`: the part number and the designer, revision and modification fields of PMPIDR0 to PMPIDR4
  (13_external R240 to R244). -/
  part : BitVec 12
  des0 : BitVec 4
  des1 : BitVec 3
  des2 : BitVec 4
  revision : BitVec 4
  revand : BitVec 4
  cmod : BitVec 4
  /-- The IMPLEMENTATION DEFINED reset vectors of AArch64 and AArch32 (70_reset R654). -/
  resetVector64 : W64
  resetVector32 : W32
  deriving DecidableEq, Repr

/-- A level can use AArch32 only if the levels below it can (60_exceptions R642; log 1). -/
def Config.execLegal (c : Config) : Bool :=
  let can (x : ExecSupport) : Bool := x != .aarch64Only
  (!can c.el1Exec || can c.el0Exec) &&
  (!(c.haveEL2 && can c.el2Exec) || can c.el1Exec) &&
  (!(c.haveEL3 && can c.el3Exec) || (can c.el1Exec && (!c.haveEL2 || can c.el2Exec)))

/-- The combinations of parameters the spec allows (00_scope R9; 20_memory R280; 92 D30; 12_context R210; 60_exceptions
R642). -/
def Config.legal (c : Config) : Bool :=
  c.execLegal &&
  c.pmuBase.toNat % 4096 == 0 &&
  (!c.secureWhenNoEL3 || (!c.haveEL2 && !c.haveEL3)) &&
  (!c.softwareLock || c.haveMemMapped) &&
  (!c.haveMemMapped || c.haveExternalPMU)

/-- CFG-A of 95_test_vectors section 0, the "full implementation" of the spec's own vectors, with the parameters that
section leaves open at the defaults of 00_scope R9. DESIGN CHOICE, log 1. -/
def Config.cfgA : Config where
  n := 6
  imp := 0x41
  idcode := 0x03
  haveEL2 := true
  haveEL3 := true
  el0Exec := .both
  el1Exec := .both
  el2Exec := .both
  el3Exec := .both
  secureWhenNoEL3 := false
  haveEventBus := false
  isMultithreaded := false
  events := [0x0000, 0x0011]
  openEvents := []
  cuCounterAccess := .undefinedOrTrap
  haveExternalPMU := true
  haveMemMapped := true
  softwareLock := true
  pmuBase := 0
  pcSample := true
  pmpcsr64 := true
  vmid16 := true
  itctrlDomain := .absent
  extSwinc := .draw
  spmadOnMemMapped := .draw
  epmadOverride := false
  secureNonInvasive := true
  nonSecureNonInvasive := true
  condPresentation := .asEncoded
  t32CV := true
  aff3 := 0
  aff2 := 0
  aff1 := 0
  aff0 := 0
  uniprocessor := false
  part := 0
  des0 := 0xB
  des1 := 0x3
  des2 := 0x4
  revision := 0
  revand := 0
  cmod := 0
  resetVector64 := 0
  resetVector32 := 0

/-- CFG-B of 95_test_vectors section 0, the "minimal implementation". Used by tests only. -/
def Config.cfgB : Config :=
  { Config.cfgA with
    n := 4, haveEL2 := false, haveEL3 := false,
    el0Exec := .aarch64Only, el1Exec := .aarch64Only, el2Exec := .aarch64Only, el3Exec := .aarch64Only }

/-- The free values: `UNKNOWN_k` (00_scope R15) is the low k bits of this at the counter State.freeCtr. No body: nothing
can be proved of a value it gives. Log 5. -/
opaque Config.freeValue : Nat → W64

/-- The address control goes to when an exception is taken, of the vector base address, the target's code and the
code of the level it is taken from: the vector offsets are not in the sources (60_exceptions R620; 91 N6). Log 11. -/
opaque Config.handlerAddress : W64 → Nat → Nat → W64

/-- The AArch64 view of an AArch32 register number that the sources leave to the PE model: R13 and R14, by the mode
(60_exceptions R605; 91 N2). Log 22. -/
opaque Config.aarch64View : BitVec 4 → BitVec 4 → BitVec 5

/-- The bits of ID_AA64DFR0_EL1, ID_DFR0 and EDDFR beside PMUVer and PerfMon (12_context R186, R187). Log 43. -/
opaque Config.idAa64dfr0 : W64
opaque Config.idDfr0 : W32
opaque Config.eddfr : W64

end Sys2Proof
end

