-- ==== Sys2Proof/Syntax.lean ====
section
/-! DEFINITION. The accesses of the hardware: the register names of the three views (spec/10_state.md R22, R23, R24) and
one constructor of Instr for each row of spec/opcode_table.json. -/
namespace Sys2Proof

/-- The eighteen AArch64 register names (10_state R22; 30_encoding R324). -/
inductive A64Reg where
  | pmcr
  | pmcntenset
  | pmcntenclr
  | pmovsclr
  | pmswinc
  | pmselr
  | pmceid0
  | pmceid1
  | pmccntr
  | pmxevtyper
  | pmxevcntr
  | pmuserenr
  | pmintenset
  | pmintenclr
  | pmovsset
  | pmccfiltr
  | pmevcntr (n : BitVec 5)
  | pmevtyper (n : BitVec 5)
  deriving DecidableEq, Repr

/-- The twenty AArch32 register names of the 32-bit accesses (10_state R23; 30_encoding R330). -/
inductive A32Reg where
  | pmcr
  | pmcntenset
  | pmcntenclr
  | pmovsr
  | pmswinc
  | pmselr
  | pmceid0
  | pmceid1
  | pmccntr
  | pmxevtyper
  | pmxevcntr
  | pmuserenr
  | pmintenset
  | pmintenclr
  | pmovsset
  | pmceid2
  | pmceid3
  | pmccfiltr
  | pmevcntr (n : BitVec 5)
  | pmevtyper (n : BitVec 5)
  deriving DecidableEq, Repr

/-- The register names of the external block (10_state R24; 30_encoding R338). `alt` picks the second of two offsets;
`reserved` is a word offset that R24 does not list (20_memory R284). -/
inductive ExtReg where
  | pmevcntr (n : BitVec 5)
  | pmccntrLo
  | pmccntrHi
  | pmpcsrLo (alt : Bool)
  | pmpcsrHi (alt : Bool)
  | pmcid1sr (alt : Bool)
  | pmvidsr
  | pmcid2sr
  | pmevtyper (n : BitVec 5)
  | pmccfiltr
  | pmcntenset
  | pmcntenclr
  | pmintenset
  | pmintenclr
  | pmovsclr
  | pmswinc
  | pmovsset
  | pmcfgr
  | pmcr
  | pmceid0
  | pmceid1
  | pmceid2
  | pmceid3
  | pmitctrl
  | pmdevaff0
  | pmdevaff1
  | pmlar
  | pmlsr
  | pmauthstatus
  | pmdevarch
  | pmdevid
  | pmdevtype
  | pmpidr4
  | pmpidr0
  | pmpidr1
  | pmpidr2
  | pmpidr3
  | pmcidr0
  | pmcidr1
  | pmcidr2
  | pmcidr3
  | reserved (off : BitVec 12)
  deriving DecidableEq, Repr

/-- What the external agent does at a 32-bit register: a read, or a write of a word (42_external R480). -/
inductive ExtOp where
  | read
  | write (v : W32)
  deriving DecidableEq, Repr

/-- At PMPCSR[31:0] there is also the 64-bit read (13_external R252; 20_memory R291). -/
inductive PcsrOp where
  | read
  | write (v : W32)
  | read64
  deriving DecidableEq, Repr

/-- An access to the external block as the bus presents it: the byte offset, the size in bytes, the data of a write
(none for a read), and whether it is memory-mapped (42_external R480; 30_encoding R338). -/
structure BusAccess where
  offset : BitVec 12
  size : Nat
  data : Option W32
  mm : Bool
  deriving DecidableEq, Repr

/-- One constructor per row of spec/opcode_table.json. `t`, `t2`: the general registers; `c`: the condition field of an
AArch32 instruction; `n`: the counter number; `op`, `mm`: what the external agent does and whether its access is
memory-mapped. -/
inductive Instr where
  /-- `MRS Xt, PMCR_EL0` (40_aarch64 R369). -/
  | mrsPmcr (t : BitVec 5)
  /-- `MSR PMCR_EL0, Xt` (40_aarch64 R370). -/
  | msrPmcr (t : BitVec 5)
  /-- `MRS Xt, PMCNTENSET_EL0` (40_aarch64 R371). -/
  | mrsPmcntenset (t : BitVec 5)
  /-- `MSR PMCNTENSET_EL0, Xt` (40_aarch64 R371). -/
  | msrPmcntenset (t : BitVec 5)
  /-- `MRS Xt, PMCNTENCLR_EL0` (40_aarch64 R373). -/
  | mrsPmcntenclr (t : BitVec 5)
  /-- `MSR PMCNTENCLR_EL0, Xt` (40_aarch64 R373). -/
  | msrPmcntenclr (t : BitVec 5)
  /-- `MRS Xt, PMOVSCLR_EL0` (40_aarch64 R374). -/
  | mrsPmovsclr (t : BitVec 5)
  /-- `MSR PMOVSCLR_EL0, Xt` (40_aarch64 R374). -/
  | msrPmovsclr (t : BitVec 5)
  /-- `MSR PMSWINC_EL0, Xt` (40_aarch64 R372). -/
  | msrPmswinc (t : BitVec 5)
  /-- `MRS Xt, PMSELR_EL0` (40_aarch64 R378). -/
  | mrsPmselr (t : BitVec 5)
  /-- `MSR PMSELR_EL0, Xt` (40_aarch64 R378). -/
  | msrPmselr (t : BitVec 5)
  /-- `MRS Xt, PMCEID0_EL0` (40_aarch64 R379). -/
  | mrsPmceid0 (t : BitVec 5)
  /-- `MRS Xt, PMCEID1_EL0` (40_aarch64 R379). -/
  | mrsPmceid1 (t : BitVec 5)
  /-- `MRS Xt, PMCCNTR_EL0` (40_aarch64 R385). -/
  | mrsPmccntr (t : BitVec 5)
  /-- `MSR PMCCNTR_EL0, Xt` (40_aarch64 R385). -/
  | msrPmccntr (t : BitVec 5)
  /-- `MRS Xt, PMXEVTYPER_EL0` (40_aarch64 R390). -/
  | mrsPmxevtyper (t : BitVec 5)
  /-- `MSR PMXEVTYPER_EL0, Xt` (40_aarch64 R390). -/
  | msrPmxevtyper (t : BitVec 5)
  /-- `MRS Xt, PMXEVCNTR_EL0` (40_aarch64 R389). -/
  | mrsPmxevcntr (t : BitVec 5)
  /-- `MSR PMXEVCNTR_EL0, Xt` (40_aarch64 R389). -/
  | msrPmxevcntr (t : BitVec 5)
  /-- `MRS Xt, PMUSERENR_EL0` (40_aarch64 R391). -/
  | mrsPmuserenr (t : BitVec 5)
  /-- `MSR PMUSERENR_EL0, Xt` (40_aarch64 R391). -/
  | msrPmuserenr (t : BitVec 5)
  /-- `MRS Xt, PMINTENSET_EL1` (40_aarch64 R376). -/
  | mrsPmintenset (t : BitVec 5)
  /-- `MSR PMINTENSET_EL1, Xt` (40_aarch64 R376). -/
  | msrPmintenset (t : BitVec 5)
  /-- `MRS Xt, PMINTENCLR_EL1` (40_aarch64 R377). -/
  | mrsPmintenclr (t : BitVec 5)
  /-- `MSR PMINTENCLR_EL1, Xt` (40_aarch64 R377). -/
  | msrPmintenclr (t : BitVec 5)
  /-- `MRS Xt, PMOVSSET_EL0` (40_aarch64 R375). -/
  | mrsPmovsset (t : BitVec 5)
  /-- `MSR PMOVSSET_EL0, Xt` (40_aarch64 R375). -/
  | msrPmovsset (t : BitVec 5)
  /-- `MRS Xt, PMCCFILTR_EL0` (40_aarch64 R386). -/
  | mrsPmccfiltr (t : BitVec 5)
  /-- `MSR PMCCFILTR_EL0, Xt` (40_aarch64 R386). -/
  | msrPmccfiltr (t : BitVec 5)
  /-- `MRS Xt, PMEVCNTR<n>_EL0` (40_aarch64 R387). -/
  | mrsPmevcntrn (n : BitVec 5) (t : BitVec 5)
  /-- `MSR PMEVCNTR<n>_EL0, Xt` (40_aarch64 R387). -/
  | msrPmevcntrn (n : BitVec 5) (t : BitVec 5)
  /-- `MRS Xt, PMEVTYPER<n>_EL0` (40_aarch64 R388). -/
  | mrsPmevtypern (n : BitVec 5) (t : BitVec 5)
  /-- `MSR PMEVTYPER<n>_EL0, Xt` (40_aarch64 R388). -/
  | msrPmevtypern (n : BitVec 5) (t : BitVec 5)
  /-- `MRC p15, 0, Rt, c9, c12, 0 ; PMCR` (41_aarch32 R430). -/
  | mrcPmcr (c t : BitVec 4)
  /-- `MCR p15, 0, Rt, c9, c12, 0 ; PMCR` (41_aarch32 R430). -/
  | mcrPmcr (c t : BitVec 4)
  /-- `MRC p15, 0, Rt, c9, c12, 1 ; PMCNTENSET` (41_aarch32 R431). -/
  | mrcPmcntenset (c t : BitVec 4)
  /-- `MCR p15, 0, Rt, c9, c12, 1 ; PMCNTENSET` (41_aarch32 R431). -/
  | mcrPmcntenset (c t : BitVec 4)
  /-- `MRC p15, 0, Rt, c9, c12, 2 ; PMCNTENCLR` (41_aarch32 R432). -/
  | mrcPmcntenclr (c t : BitVec 4)
  /-- `MCR p15, 0, Rt, c9, c12, 2 ; PMCNTENCLR` (41_aarch32 R432). -/
  | mcrPmcntenclr (c t : BitVec 4)
  /-- `MRC p15, 0, Rt, c9, c12, 3 ; PMOVSR` (41_aarch32 R434). -/
  | mrcPmovsr (c t : BitVec 4)
  /-- `MCR p15, 0, Rt, c9, c12, 3 ; PMOVSR` (41_aarch32 R434). -/
  | mcrPmovsr (c t : BitVec 4)
  /-- `MCR p15, 0, Rt, c9, c12, 4 ; PMSWINC` (41_aarch32 R433). -/
  | mcrPmswinc (c t : BitVec 4)
  /-- `MRC p15, 0, Rt, c9, c12, 5 ; PMSELR` (41_aarch32 R435). -/
  | mrcPmselr (c t : BitVec 4)
  /-- `MCR p15, 0, Rt, c9, c12, 5 ; PMSELR` (41_aarch32 R435). -/
  | mcrPmselr (c t : BitVec 4)
  /-- `MRC p15, 0, Rt, c9, c12, 6 ; PMCEID0` (41_aarch32 R436). -/
  | mrcPmceid0 (c t : BitVec 4)
  /-- `MRC p15, 0, Rt, c9, c12, 7 ; PMCEID1` (41_aarch32 R436). -/
  | mrcPmceid1 (c t : BitVec 4)
  /-- `MRC p15, 0, Rt, c9, c13, 0 ; PMCCNTR` (41_aarch32 R437). -/
  | mrcPmccntr (c t : BitVec 4)
  /-- `MCR p15, 0, Rt, c9, c13, 0 ; PMCCNTR` (41_aarch32 R437). -/
  | mcrPmccntr (c t : BitVec 4)
  /-- `MRC p15, 0, Rt, c9, c13, 1 ; PMXEVTYPER` (41_aarch32 R438). -/
  | mrcPmxevtyper (c t : BitVec 4)
  /-- `MCR p15, 0, Rt, c9, c13, 1 ; PMXEVTYPER` (41_aarch32 R438). -/
  | mcrPmxevtyper (c t : BitVec 4)
  /-- `MRC p15, 0, Rt, c9, c13, 2 ; PMXEVCNTR` (41_aarch32 R439). -/
  | mrcPmxevcntr (c t : BitVec 4)
  /-- `MCR p15, 0, Rt, c9, c13, 2 ; PMXEVCNTR` (41_aarch32 R439). -/
  | mcrPmxevcntr (c t : BitVec 4)
  /-- `MRC p15, 0, Rt, c9, c14, 0 ; PMUSERENR` (41_aarch32 R441). -/
  | mrcPmuserenr (c t : BitVec 4)
  /-- `MCR p15, 0, Rt, c9, c14, 0 ; PMUSERENR` (41_aarch32 R441). -/
  | mcrPmuserenr (c t : BitVec 4)
  /-- `MRC p15, 0, Rt, c9, c14, 1 ; PMINTENSET` (41_aarch32 R442). -/
  | mrcPmintenset (c t : BitVec 4)
  /-- `MCR p15, 0, Rt, c9, c14, 1 ; PMINTENSET` (41_aarch32 R442). -/
  | mcrPmintenset (c t : BitVec 4)
  /-- `MRC p15, 0, Rt, c9, c14, 2 ; PMINTENCLR` (41_aarch32 R443). -/
  | mrcPmintenclr (c t : BitVec 4)
  /-- `MCR p15, 0, Rt, c9, c14, 2 ; PMINTENCLR` (41_aarch32 R443). -/
  | mcrPmintenclr (c t : BitVec 4)
  /-- `MRC p15, 0, Rt, c9, c14, 3 ; PMOVSSET` (41_aarch32 R444). -/
  | mrcPmovsset (c t : BitVec 4)
  /-- `MCR p15, 0, Rt, c9, c14, 3 ; PMOVSSET` (41_aarch32 R444). -/
  | mcrPmovsset (c t : BitVec 4)
  /-- `MRC p15, 0, Rt, c9, c14, 4 ; PMCEID2` (41_aarch32 R436). -/
  | mrcPmceid2 (c t : BitVec 4)
  /-- `MRC p15, 0, Rt, c9, c14, 5 ; PMCEID3` (41_aarch32 R436). -/
  | mrcPmceid3 (c t : BitVec 4)
  /-- `MRC p15, 0, Rt, c14, c15, 7 ; PMCCFILTR` (41_aarch32 R445). -/
  | mrcPmccfiltr (c t : BitVec 4)
  /-- `MCR p15, 0, Rt, c14, c15, 7 ; PMCCFILTR` (41_aarch32 R445). -/
  | mcrPmccfiltr (c t : BitVec 4)
  /-- `MRC p15, 0, Rt, c14, c<10:n[4:3]>, <n[2:0]> ; PMEVCNTR<n>` (41_aarch32 R446). -/
  | mrcPmevcntrn (c : BitVec 4) (n : BitVec 5) (t : BitVec 4)
  /-- `MCR p15, 0, Rt, c14, c<10:n[4:3]>, <n[2:0]> ; PMEVCNTR<n>` (41_aarch32 R446). -/
  | mcrPmevcntrn (c : BitVec 4) (n : BitVec 5) (t : BitVec 4)
  /-- `MRC p15, 0, Rt, c14, c<11:n[4:3]>, <n[2:0]> ; PMEVTYPER<n>` (41_aarch32 R447). -/
  | mrcPmevtypern (c : BitVec 4) (n : BitVec 5) (t : BitVec 4)
  /-- `MCR p15, 0, Rt, c14, c<11:n[4:3]>, <n[2:0]> ; PMEVTYPER<n>` (41_aarch32 R447). -/
  | mcrPmevtypern (c : BitVec 4) (n : BitVec 5) (t : BitVec 4)
  /-- `MRRC p15, 0, Rt, Rt2, c9 ; PMCCNTR` (41_aarch32 R440). -/
  | mrrcPmccntr (c t t2 : BitVec 4)
  /-- `MCRR p15, 0, Rt, Rt2, c9 ; PMCCNTR` (41_aarch32 R440). -/
  | mcrrPmccntr (c t t2 : BitVec 4)
  /-- `EXT PMEVCNTR<n>_EL0` (42_external R492). -/
  | extPmevcntrn (n : BitVec 5) (op : ExtOp) (mm : Bool)
  /-- `EXT PMCCNTR_EL0[31:0]` (42_external R493). -/
  | extPmccntrLo (op : ExtOp) (mm : Bool)
  /-- `EXT PMCCNTR_EL0[63:32]` (42_external R493). -/
  | extPmccntrHi (op : ExtOp) (mm : Bool)
  /-- `EXT PMPCSR[31:0]` (42_external R511). -/
  | extPmpcsrLo (alt : Bool) (op : PcsrOp) (mm : Bool)
  /-- `EXT PMPCSR[63:32]` (42_external R511). -/
  | extPmpcsrHi (alt : Bool) (op : ExtOp) (mm : Bool)
  /-- `EXT PMCID1SR` (42_external R512). -/
  | extPmcid1sr (alt : Bool) (op : ExtOp) (mm : Bool)
  /-- `EXT PMVIDSR` (42_external R512). -/
  | extPmvidsr (op : ExtOp) (mm : Bool)
  /-- `EXT PMCID2SR` (42_external R512). -/
  | extPmcid2sr (op : ExtOp) (mm : Bool)
  /-- `EXT PMEVTYPER<n>_EL0` (42_external R494). -/
  | extPmevtypern (n : BitVec 5) (op : ExtOp) (mm : Bool)
  /-- `EXT PMCCFILTR_EL0` (42_external R494). -/
  | extPmccfiltr (op : ExtOp) (mm : Bool)
  /-- `EXT PMCNTENSET_EL0` (42_external R500). -/
  | extPmcntenset (op : ExtOp) (mm : Bool)
  /-- `EXT PMCNTENCLR_EL0` (42_external R501). -/
  | extPmcntenclr (op : ExtOp) (mm : Bool)
  /-- `EXT PMINTENSET_EL1` (42_external R502). -/
  | extPmintenset (op : ExtOp) (mm : Bool)
  /-- `EXT PMINTENCLR_EL1` (42_external R503). -/
  | extPmintenclr (op : ExtOp) (mm : Bool)
  /-- `EXT PMOVSCLR_EL0` (42_external R504). -/
  | extPmovsclr (op : ExtOp) (mm : Bool)
  /-- `EXT PMSWINC_EL0` (42_external R495). -/
  | extPmswinc (op : ExtOp) (mm : Bool)
  /-- `EXT PMOVSSET_EL0` (42_external R505). -/
  | extPmovsset (op : ExtOp) (mm : Bool)
  /-- `EXT PMCFGR` (42_external R510). -/
  | extPmcfgr (op : ExtOp) (mm : Bool)
  /-- `EXT PMCR_EL0` (42_external R506). -/
  | extPmcr (op : ExtOp) (mm : Bool)
  /-- `EXT PMCEID0` (42_external R507). -/
  | extPmceid0 (op : ExtOp) (mm : Bool)
  /-- `EXT PMCEID1` (42_external R507). -/
  | extPmceid1 (op : ExtOp) (mm : Bool)
  /-- `EXT PMCEID2` (42_external R507). -/
  | extPmceid2 (op : ExtOp) (mm : Bool)
  /-- `EXT PMCEID3` (42_external R507). -/
  | extPmceid3 (op : ExtOp) (mm : Bool)
  /-- `EXT PMITCTRL` (42_external R513). -/
  | extPmitctrl (op : ExtOp) (mm : Bool)
  /-- `EXT PMDEVAFF0` (42_external R522). -/
  | extPmdevaff0 (op : ExtOp) (mm : Bool)
  /-- `EXT PMDEVAFF1` (42_external R522). -/
  | extPmdevaff1 (op : ExtOp) (mm : Bool)
  /-- `EXT PMLAR` (42_external R520). -/
  | extPmlar (op : ExtOp) (mm : Bool)
  /-- `EXT PMLSR` (42_external R521). -/
  | extPmlsr (op : ExtOp) (mm : Bool)
  /-- `EXT PMAUTHSTATUS` (42_external R522). -/
  | extPmauthstatus (op : ExtOp) (mm : Bool)
  /-- `EXT PMDEVARCH` (42_external R522). -/
  | extPmdevarch (op : ExtOp) (mm : Bool)
  /-- `EXT PMDEVID` (42_external R522). -/
  | extPmdevid (op : ExtOp) (mm : Bool)
  /-- `EXT PMDEVTYPE` (42_external R522). -/
  | extPmdevtype (op : ExtOp) (mm : Bool)
  /-- `EXT PMPIDR4` (42_external R522). -/
  | extPmpidr4 (op : ExtOp) (mm : Bool)
  /-- `EXT PMPIDR0` (42_external R522). -/
  | extPmpidr0 (op : ExtOp) (mm : Bool)
  /-- `EXT PMPIDR1` (42_external R522). -/
  | extPmpidr1 (op : ExtOp) (mm : Bool)
  /-- `EXT PMPIDR2` (42_external R522). -/
  | extPmpidr2 (op : ExtOp) (mm : Bool)
  /-- `EXT PMPIDR3` (42_external R522). -/
  | extPmpidr3 (op : ExtOp) (mm : Bool)
  /-- `EXT PMCIDR0` (42_external R522). -/
  | extPmcidr0 (op : ExtOp) (mm : Bool)
  /-- `EXT PMCIDR1` (42_external R522). -/
  | extPmcidr1 (op : ExtOp) (mm : Bool)
  /-- `EXT PMCIDR2` (42_external R522). -/
  | extPmcidr2 (op : ExtOp) (mm : Bool)
  /-- `EXT PMCIDR3` (42_external R522). -/
  | extPmcidr3 (op : ExtOp) (mm : Bool)
  /-- `EXT reserved offset` (42_external R497). -/
  | extReserved (off : BitVec 12) (op : ExtOp) (mm : Bool)
  deriving DecidableEq, Repr

/-- The context registers of spec/12_context_registers.md in their AArch64 names (R384; 12_context R160 to R210,
60_exceptions R640). They are no rows of the opcode table. -/
inductive Ctx64Reg where
  | mdcrEl2
  | mdcrEl3
  | sder32El3
  | hstrEl2
  | hcrEl2
  | scrEl3
  | oslsrEl1
  | oslarEl1
  | osdlrEl1
  | dbgprcrEl1
  | idAa64dfr0El1
  | idDfr0El1
  | mpidrEl1
  | currentEl
  deriving DecidableEq, Repr

/-- The context registers of spec/12_context_registers.md with an AArch32 name; that page gives their encodings, but for
HCR's (log 43). -/
inductive Ctx32Reg where
  | hdcr
  | sdcr
  | sder
  | hstr
  | hcr
  | scr
  | idDfr0
  deriving DecidableEq, Repr

/-- An access to a context register. -/
inductive CtxAccess where
  | a64 (r : Ctx64Reg) (wr : Bool) (t : BitVec 5)
  | a32 (r : Ctx32Reg) (wr : Bool) (c t : BitVec 4)
  deriving DecidableEq, Repr

end Sys2Proof
end

