-- ==== Sys2Proof/WellFormed.lean ====
section
/-! DEFINITION. Which instructions the encodings of spec/30_encoding.md admit. -/
namespace Sys2Proof

/-- The numbered registers have n = 0 to 30: slot 31 is another register or none (30_encoding R325, R335). -/
def wfCounter (n : BitVec 5) : Bool := n != 31

/-- cond = 0b1111 is another instruction class (30_encoding R333). -/
def wfCond (c : BitVec 4) : Bool := c != 15

/-- R15 is refused as Rt or Rt2 (30_encoding R334). -/
def wfReg32 (t : BitVec 4) : Bool := t != 15

/-- A 32-bit AArch32 access: a condition and a register the spec admits. -/
def wfA32 (c t : BitVec 4) : Bool := wfCond c && wfReg32 t

/-- The offsets spec/20_memory.md R284 lists as not allocated, whatever the parameters are. -/
def reservedOffset (off : BitVec 12) : Bool :=
  let o := off.toNat
  o % 4 == 0 &&
  ((o < 0xF8 && o % 8 == 4) ||
   (0x100 ≤ o && o ≤ 0x1FC) ||
   (0x210 ≤ o && o ≤ 0x21C) ||
   (0x230 ≤ o && o ≤ 0x3FC) ||
   (0x480 ≤ o && o ≤ 0xBFC) ||
   (0xC04 ≤ o && o ≤ 0xC1C) || (0xC24 ≤ o && o ≤ 0xC3C) || (0xC44 ≤ o && o ≤ 0xC5C) ||
   (0xC64 ≤ o && o ≤ 0xC7C) || (0xC84 ≤ o && o ≤ 0xC9C) || (0xCA4 ≤ o && o ≤ 0xCBC) ||
   (0xCC4 ≤ o && o ≤ 0xDFC) ||
   (0xE08 ≤ o && o ≤ 0xE1C) || (0xE30 ≤ o && o ≤ 0xEFC) ||
   (0xF04 ≤ o && o ≤ 0xFA4) ||
   o == 0xFC0 || o == 0xFC4 ||
   (0xFD4 ≤ o && o ≤ 0xFDC))

/-- Well-formed instructions. -/
def WellFormed : Instr → Bool
  | .mrsPmcr _ => true
  | .msrPmcr _ => true
  | .mrsPmcntenset _ => true
  | .msrPmcntenset _ => true
  | .mrsPmcntenclr _ => true
  | .msrPmcntenclr _ => true
  | .mrsPmovsclr _ => true
  | .msrPmovsclr _ => true
  | .msrPmswinc _ => true
  | .mrsPmselr _ => true
  | .msrPmselr _ => true
  | .mrsPmceid0 _ => true
  | .mrsPmceid1 _ => true
  | .mrsPmccntr _ => true
  | .msrPmccntr _ => true
  | .mrsPmxevtyper _ => true
  | .msrPmxevtyper _ => true
  | .mrsPmxevcntr _ => true
  | .msrPmxevcntr _ => true
  | .mrsPmuserenr _ => true
  | .msrPmuserenr _ => true
  | .mrsPmintenset _ => true
  | .msrPmintenset _ => true
  | .mrsPmintenclr _ => true
  | .msrPmintenclr _ => true
  | .mrsPmovsset _ => true
  | .msrPmovsset _ => true
  | .mrsPmccfiltr _ => true
  | .msrPmccfiltr _ => true
  | .mrsPmevcntrn n _ => wfCounter n
  | .msrPmevcntrn n _ => wfCounter n
  | .mrsPmevtypern n _ => wfCounter n
  | .msrPmevtypern n _ => wfCounter n
  | .mrcPmcr c t => wfA32 c t
  | .mcrPmcr c t => wfA32 c t
  | .mrcPmcntenset c t => wfA32 c t
  | .mcrPmcntenset c t => wfA32 c t
  | .mrcPmcntenclr c t => wfA32 c t
  | .mcrPmcntenclr c t => wfA32 c t
  | .mrcPmovsr c t => wfA32 c t
  | .mcrPmovsr c t => wfA32 c t
  | .mcrPmswinc c t => wfA32 c t
  | .mrcPmselr c t => wfA32 c t
  | .mcrPmselr c t => wfA32 c t
  | .mrcPmceid0 c t => wfA32 c t
  | .mrcPmceid1 c t => wfA32 c t
  | .mrcPmccntr c t => wfA32 c t
  | .mcrPmccntr c t => wfA32 c t
  | .mrcPmxevtyper c t => wfA32 c t
  | .mcrPmxevtyper c t => wfA32 c t
  | .mrcPmxevcntr c t => wfA32 c t
  | .mcrPmxevcntr c t => wfA32 c t
  | .mrcPmuserenr c t => wfA32 c t
  | .mcrPmuserenr c t => wfA32 c t
  | .mrcPmintenset c t => wfA32 c t
  | .mcrPmintenset c t => wfA32 c t
  | .mrcPmintenclr c t => wfA32 c t
  | .mcrPmintenclr c t => wfA32 c t
  | .mrcPmovsset c t => wfA32 c t
  | .mcrPmovsset c t => wfA32 c t
  | .mrcPmceid2 c t => wfA32 c t
  | .mrcPmceid3 c t => wfA32 c t
  | .mrcPmccfiltr c t => wfA32 c t
  | .mcrPmccfiltr c t => wfA32 c t
  | .mrcPmevcntrn c n t => wfA32 c t && wfCounter n
  | .mcrPmevcntrn c n t => wfA32 c t && wfCounter n
  | .mrcPmevtypern c n t => wfA32 c t && wfCounter n
  | .mcrPmevtypern c n t => wfA32 c t && wfCounter n
  | .mrrcPmccntr c t t2 => wfA32 c t && wfReg32 t2 && t != t2
  | .mcrrPmccntr c t t2 => wfA32 c t && wfReg32 t2
  | .extPmevcntrn n _ _ => wfCounter n
  | .extPmccntrLo _ _ => true
  | .extPmccntrHi _ _ => true
  | .extPmpcsrLo _ _ _ => true
  | .extPmpcsrHi _ _ _ => true
  | .extPmcid1sr _ _ _ => true
  | .extPmvidsr _ _ => true
  | .extPmcid2sr _ _ => true
  | .extPmevtypern n _ _ => wfCounter n
  | .extPmccfiltr _ _ => true
  | .extPmcntenset _ _ => true
  | .extPmcntenclr _ _ => true
  | .extPmintenset _ _ => true
  | .extPmintenclr _ _ => true
  | .extPmovsclr _ _ => true
  | .extPmswinc _ _ => true
  | .extPmovsset _ _ => true
  | .extPmcfgr _ _ => true
  | .extPmcr _ _ => true
  | .extPmceid0 _ _ => true
  | .extPmceid1 _ _ => true
  | .extPmceid2 _ _ => true
  | .extPmceid3 _ _ => true
  | .extPmitctrl _ _ => true
  | .extPmdevaff0 _ _ => true
  | .extPmdevaff1 _ _ => true
  | .extPmlar _ _ => true
  | .extPmlsr _ _ => true
  | .extPmauthstatus _ _ => true
  | .extPmdevarch _ _ => true
  | .extPmdevid _ _ => true
  | .extPmdevtype _ _ => true
  | .extPmpidr4 _ _ => true
  | .extPmpidr0 _ _ => true
  | .extPmpidr1 _ _ => true
  | .extPmpidr2 _ _ => true
  | .extPmpidr3 _ _ => true
  | .extPmcidr0 _ _ => true
  | .extPmcidr1 _ _ => true
  | .extPmcidr2 _ _ => true
  | .extPmcidr3 _ _ => true
  | .extReserved off _ _ => reservedOffset off

end Sys2Proof
end

