-- ==== Sys2Proof/Decode.lean ====
section
/-! DEFINITION. Decoding and encoding of the accesses (spec/30_encoding.md). The instruction words are marked there as
general knowledge: PRESUMED, log 9; their lay-out in memory: PRESUMED, log 8. Decoding is total and rejects by name. -/
namespace Sys2Proof

/-! ### The encodings of the register names -/

/-- The instruction sets an instruction word is read in (30_encoding R321, R331). -/
inductive Isa where
  | a64
  | a32
  | t32
  deriving DecidableEq, Repr

/-- The five selector fields of an AArch64 System register (30_encoding R324). -/
structure Sel64 where
  op0 : BitVec 2
  op1 : BitVec 3
  crn : BitVec 4
  crm : BitVec 4
  op2 : BitVec 3
  deriving DecidableEq, Repr

/-- The selector fields of a 32-bit AArch32 System register access in coprocessor p15 (30_encoding R330). -/
structure Sel32 where
  opc1 : BitVec 3
  crn : BitVec 4
  crm : BitVec 4
  opc2 : BitVec 3
  deriving DecidableEq, Repr

/-- The selectors of the eighteen AArch64 names (30_encoding R324, R325). -/
def A64Reg.sel : A64Reg → Sel64
  | .pmcr => ⟨3, 3, 9, 12, 0⟩
  | .pmcntenset => ⟨3, 3, 9, 12, 1⟩
  | .pmcntenclr => ⟨3, 3, 9, 12, 2⟩
  | .pmovsclr => ⟨3, 3, 9, 12, 3⟩
  | .pmswinc => ⟨3, 3, 9, 12, 4⟩
  | .pmselr => ⟨3, 3, 9, 12, 5⟩
  | .pmceid0 => ⟨3, 3, 9, 12, 6⟩
  | .pmceid1 => ⟨3, 3, 9, 12, 7⟩
  | .pmccntr => ⟨3, 3, 9, 13, 0⟩
  | .pmxevtyper => ⟨3, 3, 9, 13, 1⟩
  | .pmxevcntr => ⟨3, 3, 9, 13, 2⟩
  | .pmuserenr => ⟨3, 3, 9, 14, 0⟩
  | .pmintenset => ⟨3, 0, 9, 14, 1⟩
  | .pmintenclr => ⟨3, 0, 9, 14, 2⟩
  | .pmovsset => ⟨3, 3, 9, 14, 3⟩
  | .pmccfiltr => ⟨3, 3, 14, 15, 7⟩
  | .pmevcntr n => ⟨3, 3, 14, 2#2 ++ n.extractLsb' 3 2, n.extractLsb' 0 3⟩
  | .pmevtyper n => ⟨3, 3, 14, 3#2 ++ n.extractLsb' 3 2, n.extractLsb' 0 3⟩

/-- The selectors of the twenty AArch32 names (30_encoding R330, R335). -/
def A32Reg.sel : A32Reg → Sel32
  | .pmcr => ⟨0, 9, 12, 0⟩
  | .pmcntenset => ⟨0, 9, 12, 1⟩
  | .pmcntenclr => ⟨0, 9, 12, 2⟩
  | .pmovsr => ⟨0, 9, 12, 3⟩
  | .pmswinc => ⟨0, 9, 12, 4⟩
  | .pmselr => ⟨0, 9, 12, 5⟩
  | .pmceid0 => ⟨0, 9, 12, 6⟩
  | .pmceid1 => ⟨0, 9, 12, 7⟩
  | .pmccntr => ⟨0, 9, 13, 0⟩
  | .pmxevtyper => ⟨0, 9, 13, 1⟩
  | .pmxevcntr => ⟨0, 9, 13, 2⟩
  | .pmuserenr => ⟨0, 9, 14, 0⟩
  | .pmintenset => ⟨0, 9, 14, 1⟩
  | .pmintenclr => ⟨0, 9, 14, 2⟩
  | .pmovsset => ⟨0, 9, 14, 3⟩
  | .pmceid2 => ⟨0, 9, 14, 4⟩
  | .pmceid3 => ⟨0, 9, 14, 5⟩
  | .pmccfiltr => ⟨0, 14, 15, 7⟩
  | .pmevcntr n => ⟨0, 14, 2#2 ++ n.extractLsb' 3 2, n.extractLsb' 0 3⟩
  | .pmevtyper n => ⟨0, 14, 3#2 ++ n.extractLsb' 3 2, n.extractLsb' 0 3⟩

/-- The offsets of the external names (10_state R24; 30_encoding R338). -/
def ExtReg.offset : ExtReg → BitVec 12
  | .pmevcntr n => 0#4 ++ n ++ 0#3
  | .pmevtyper n => 8#5 ++ n ++ 0#2
  | .pmpcsrLo alt => if alt then 0x220 else 0x200
  | .pmpcsrHi alt => if alt then 0x224 else 0x204
  | .pmcid1sr alt => if alt then 0x228 else 0x208
  | .reserved off => off
  | .pmccntrLo => 0x0F8
  | .pmccntrHi => 0x0FC
  | .pmvidsr => 0x20C
  | .pmcid2sr => 0x22C
  | .pmccfiltr => 0x47C
  | .pmcntenset => 0xC00
  | .pmcntenclr => 0xC20
  | .pmintenset => 0xC40
  | .pmintenclr => 0xC60
  | .pmovsclr => 0xC80
  | .pmswinc => 0xCA0
  | .pmovsset => 0xCC0
  | .pmcfgr => 0xE00
  | .pmcr => 0xE04
  | .pmceid0 => 0xE20
  | .pmceid1 => 0xE24
  | .pmceid2 => 0xE28
  | .pmceid3 => 0xE2C
  | .pmitctrl => 0xF00
  | .pmdevaff0 => 0xFA8
  | .pmdevaff1 => 0xFAC
  | .pmlar => 0xFB0
  | .pmlsr => 0xFB4
  | .pmauthstatus => 0xFB8
  | .pmdevarch => 0xFBC
  | .pmdevid => 0xFC8
  | .pmdevtype => 0xFCC
  | .pmpidr4 => 0xFD0
  | .pmpidr0 => 0xFE0
  | .pmpidr1 => 0xFE4
  | .pmpidr2 => 0xFE8
  | .pmpidr3 => 0xFEC
  | .pmcidr0 => 0xFF0
  | .pmcidr1 => 0xFF4
  | .pmcidr2 => 0xFF8
  | .pmcidr3 => 0xFFC

/-- The selectors of the context registers in AArch64 (12_context R160 to R210; 60_exceptions R640). -/
def Ctx64Reg.sel : Ctx64Reg → Sel64
  | .mdcrEl2 => ⟨3, 4, 1, 1, 1⟩
  | .mdcrEl3 => ⟨3, 6, 1, 3, 1⟩
  | .sder32El3 => ⟨3, 6, 1, 1, 1⟩
  | .hstrEl2 => ⟨3, 4, 1, 1, 3⟩
  | .hcrEl2 => ⟨3, 4, 1, 1, 0⟩
  | .scrEl3 => ⟨3, 6, 1, 1, 0⟩
  | .oslsrEl1 => ⟨2, 0, 1, 1, 4⟩
  | .oslarEl1 => ⟨2, 0, 1, 0, 4⟩
  | .osdlrEl1 => ⟨2, 0, 1, 3, 4⟩
  | .dbgprcrEl1 => ⟨2, 0, 1, 4, 4⟩
  | .idAa64dfr0El1 => ⟨3, 0, 0, 5, 0⟩
  | .idDfr0El1 => ⟨3, 0, 0, 1, 2⟩
  | .mpidrEl1 => ⟨3, 0, 0, 0, 5⟩
  | .currentEl => ⟨3, 0, 4, 2, 2⟩

/-- The selectors of the context registers in AArch32 (12_context R160, R173, R175, R180, R184, R187). HCR's is PRESUMED,
the same as HCR_EL2's opc1, CRn, CRm, opc2 (log 43). -/
def Ctx32Reg.sel : Ctx32Reg → Sel32
  | .hdcr => ⟨4, 1, 1, 1⟩
  | .sdcr => ⟨0, 1, 3, 1⟩
  | .sder => ⟨0, 1, 1, 1⟩
  | .hstr => ⟨4, 1, 1, 3⟩
  | .hcr => ⟨4, 1, 1, 0⟩
  | .scr => ⟨0, 1, 1, 0⟩
  | .idDfr0 => ⟨0, 0, 1, 2⟩

def a64FixedRegs : List A64Reg :=
  [.pmcr, .pmcntenset, .pmcntenclr, .pmovsclr, .pmswinc, .pmselr,
   .pmceid0, .pmceid1, .pmccntr, .pmxevtyper, .pmxevcntr, .pmuserenr,
   .pmintenset, .pmintenclr, .pmovsset, .pmccfiltr]

def a32FixedRegs : List A32Reg :=
  [.pmcr, .pmcntenset, .pmcntenclr, .pmovsr, .pmswinc, .pmselr,
   .pmceid0, .pmceid1, .pmccntr, .pmxevtyper, .pmxevcntr, .pmuserenr,
   .pmintenset, .pmintenclr, .pmovsset, .pmceid2, .pmceid3, .pmccfiltr]

def ctx64Regs : List Ctx64Reg :=
  [.mdcrEl2, .mdcrEl3, .sder32El3, .hstrEl2, .hcrEl2, .scrEl3, .oslsrEl1, .oslarEl1, .osdlrEl1, .dbgprcrEl1,
   .idAa64dfr0El1, .idDfr0El1, .mpidrEl1, .currentEl]

def ctx32Regs : List Ctx32Reg := [.hdcr, .sdcr, .sder, .hstr, .hcr, .scr, .idDfr0]

def extFixedRegs : List ExtReg :=
  [.pmccntrLo, .pmccntrHi, .pmvidsr, .pmcid2sr, .pmccfiltr, .pmcntenset,
   .pmcntenclr, .pmintenset, .pmintenclr, .pmovsclr, .pmswinc, .pmovsset,
   .pmcfgr, .pmcr, .pmceid0, .pmceid1, .pmceid2, .pmceid3,
   .pmitctrl, .pmdevaff0, .pmdevaff1, .pmlar, .pmlsr, .pmauthstatus,
   .pmdevarch, .pmdevid, .pmdevtype, .pmpidr4, .pmpidr0, .pmpidr1,
   .pmpidr2, .pmpidr3, .pmcidr0, .pmcidr1, .pmcidr2, .pmcidr3,
   .pmpcsrLo false, .pmpcsrLo true, .pmpcsrHi false, .pmpcsrHi true, .pmcid1sr false, .pmcid1sr true]

/-- The AArch64 name a selector tuple picks (30_encoding R324; the numbered registers R325: slot 31 of the type
registers is PMCCFILTR_EL0, slot 31 of the count registers is no register). -/
def a64RegOf (k : Sel64) : Option A64Reg :=
  match a64FixedRegs.find? (fun r => r.sel == k) with
  | some r => some r
  | none =>
    let n := k.crm.extractLsb' 0 2 ++ k.op2
    if k.op0 == 3 && k.op1 == 3 && k.crn == 14 && k.crm.getLsbD 3 && wfCounter n then
      some (if k.crm.getLsbD 2 then .pmevtyper n else .pmevcntr n)
    else none

/-- The AArch32 name a selector tuple picks (30_encoding R330, R335). -/
def a32RegOf (k : Sel32) : Option A32Reg :=
  match a32FixedRegs.find? (fun r => r.sel == k) with
  | some r => some r
  | none =>
    let n := k.crm.extractLsb' 0 2 ++ k.opc2
    if k.opc1 == 0 && k.crn == 14 && k.crm.getLsbD 3 && wfCounter n then
      some (if k.crm.getLsbD 2 then .pmevtyper n else .pmevcntr n)
    else none

/-- The external name a word offset picks (30_encoding R338; every other offset is reserved, 20_memory R284). -/
def extRegOf (off : BitVec 12) : ExtReg :=
  match extFixedRegs.find? (fun r => r.offset == off) with
  | some r => r
  | none =>
    if off.extractLsb' 8 4 == 0 && off.extractLsb' 0 3 == 0 && wfCounter (off.extractLsb' 3 5) then
      .pmevcntr (off.extractLsb' 3 5)
    else if off.extractLsb' 7 5 == 8 && off.extractLsb' 0 2 == 0 && wfCounter (off.extractLsb' 2 5) then
      .pmevtyper (off.extractLsb' 2 5)
    else .reserved off

/-! ### Instructions as register and operands -/

/-- A 32-bit request as the request the bus decoder sees. -/
def ExtOp.request : ExtOp → PcsrOp
  | .read => .read
  | .write v => .write v

/-- The 32-bit request of a bus request, if it is one. -/
def PcsrOp.word : PcsrOp → Option ExtOp
  | .read => some .read
  | .write v => some (.write v)
  | .read64 => none

/-- An instruction seen as its format, its register and its operands (30_encoding R320). -/
inductive Form where
  | a64 (r : A64Reg) (wr : Bool) (t : BitVec 5)
  | a32 (r : A32Reg) (wr : Bool) (c t : BitVec 4)
  | a32Wide (wr : Bool) (c t t2 : BitVec 4)
  | ext (r : ExtReg) (q : PcsrOp) (mm : Bool)
  deriving DecidableEq, Repr

/-- The form of an instruction. -/
def Instr.form : Instr → Form
  | .mrsPmcr t => .a64 .pmcr false t
  | .msrPmcr t => .a64 .pmcr true t
  | .mrsPmcntenset t => .a64 .pmcntenset false t
  | .msrPmcntenset t => .a64 .pmcntenset true t
  | .mrsPmcntenclr t => .a64 .pmcntenclr false t
  | .msrPmcntenclr t => .a64 .pmcntenclr true t
  | .mrsPmovsclr t => .a64 .pmovsclr false t
  | .msrPmovsclr t => .a64 .pmovsclr true t
  | .msrPmswinc t => .a64 .pmswinc true t
  | .mrsPmselr t => .a64 .pmselr false t
  | .msrPmselr t => .a64 .pmselr true t
  | .mrsPmceid0 t => .a64 .pmceid0 false t
  | .mrsPmceid1 t => .a64 .pmceid1 false t
  | .mrsPmccntr t => .a64 .pmccntr false t
  | .msrPmccntr t => .a64 .pmccntr true t
  | .mrsPmxevtyper t => .a64 .pmxevtyper false t
  | .msrPmxevtyper t => .a64 .pmxevtyper true t
  | .mrsPmxevcntr t => .a64 .pmxevcntr false t
  | .msrPmxevcntr t => .a64 .pmxevcntr true t
  | .mrsPmuserenr t => .a64 .pmuserenr false t
  | .msrPmuserenr t => .a64 .pmuserenr true t
  | .mrsPmintenset t => .a64 .pmintenset false t
  | .msrPmintenset t => .a64 .pmintenset true t
  | .mrsPmintenclr t => .a64 .pmintenclr false t
  | .msrPmintenclr t => .a64 .pmintenclr true t
  | .mrsPmovsset t => .a64 .pmovsset false t
  | .msrPmovsset t => .a64 .pmovsset true t
  | .mrsPmccfiltr t => .a64 .pmccfiltr false t
  | .msrPmccfiltr t => .a64 .pmccfiltr true t
  | .mrsPmevcntrn n t => .a64 (.pmevcntr n) false t
  | .msrPmevcntrn n t => .a64 (.pmevcntr n) true t
  | .mrsPmevtypern n t => .a64 (.pmevtyper n) false t
  | .msrPmevtypern n t => .a64 (.pmevtyper n) true t
  | .mrcPmcr c t => .a32 .pmcr false c t
  | .mcrPmcr c t => .a32 .pmcr true c t
  | .mrcPmcntenset c t => .a32 .pmcntenset false c t
  | .mcrPmcntenset c t => .a32 .pmcntenset true c t
  | .mrcPmcntenclr c t => .a32 .pmcntenclr false c t
  | .mcrPmcntenclr c t => .a32 .pmcntenclr true c t
  | .mrcPmovsr c t => .a32 .pmovsr false c t
  | .mcrPmovsr c t => .a32 .pmovsr true c t
  | .mcrPmswinc c t => .a32 .pmswinc true c t
  | .mrcPmselr c t => .a32 .pmselr false c t
  | .mcrPmselr c t => .a32 .pmselr true c t
  | .mrcPmceid0 c t => .a32 .pmceid0 false c t
  | .mrcPmceid1 c t => .a32 .pmceid1 false c t
  | .mrcPmccntr c t => .a32 .pmccntr false c t
  | .mcrPmccntr c t => .a32 .pmccntr true c t
  | .mrcPmxevtyper c t => .a32 .pmxevtyper false c t
  | .mcrPmxevtyper c t => .a32 .pmxevtyper true c t
  | .mrcPmxevcntr c t => .a32 .pmxevcntr false c t
  | .mcrPmxevcntr c t => .a32 .pmxevcntr true c t
  | .mrcPmuserenr c t => .a32 .pmuserenr false c t
  | .mcrPmuserenr c t => .a32 .pmuserenr true c t
  | .mrcPmintenset c t => .a32 .pmintenset false c t
  | .mcrPmintenset c t => .a32 .pmintenset true c t
  | .mrcPmintenclr c t => .a32 .pmintenclr false c t
  | .mcrPmintenclr c t => .a32 .pmintenclr true c t
  | .mrcPmovsset c t => .a32 .pmovsset false c t
  | .mcrPmovsset c t => .a32 .pmovsset true c t
  | .mrcPmceid2 c t => .a32 .pmceid2 false c t
  | .mrcPmceid3 c t => .a32 .pmceid3 false c t
  | .mrcPmccfiltr c t => .a32 .pmccfiltr false c t
  | .mcrPmccfiltr c t => .a32 .pmccfiltr true c t
  | .mrcPmevcntrn c n t => .a32 (.pmevcntr n) false c t
  | .mcrPmevcntrn c n t => .a32 (.pmevcntr n) true c t
  | .mrcPmevtypern c n t => .a32 (.pmevtyper n) false c t
  | .mcrPmevtypern c n t => .a32 (.pmevtyper n) true c t
  | .mrrcPmccntr c t t2 => .a32Wide false c t t2
  | .mcrrPmccntr c t t2 => .a32Wide true c t t2
  | .extPmevcntrn n op mm => .ext (.pmevcntr n) op.request mm
  | .extPmccntrLo op mm => .ext .pmccntrLo op.request mm
  | .extPmccntrHi op mm => .ext .pmccntrHi op.request mm
  | .extPmpcsrLo alt op mm => .ext (.pmpcsrLo alt) op mm
  | .extPmpcsrHi alt op mm => .ext (.pmpcsrHi alt) op.request mm
  | .extPmcid1sr alt op mm => .ext (.pmcid1sr alt) op.request mm
  | .extPmvidsr op mm => .ext .pmvidsr op.request mm
  | .extPmcid2sr op mm => .ext .pmcid2sr op.request mm
  | .extPmevtypern n op mm => .ext (.pmevtyper n) op.request mm
  | .extPmccfiltr op mm => .ext .pmccfiltr op.request mm
  | .extPmcntenset op mm => .ext .pmcntenset op.request mm
  | .extPmcntenclr op mm => .ext .pmcntenclr op.request mm
  | .extPmintenset op mm => .ext .pmintenset op.request mm
  | .extPmintenclr op mm => .ext .pmintenclr op.request mm
  | .extPmovsclr op mm => .ext .pmovsclr op.request mm
  | .extPmswinc op mm => .ext .pmswinc op.request mm
  | .extPmovsset op mm => .ext .pmovsset op.request mm
  | .extPmcfgr op mm => .ext .pmcfgr op.request mm
  | .extPmcr op mm => .ext .pmcr op.request mm
  | .extPmceid0 op mm => .ext .pmceid0 op.request mm
  | .extPmceid1 op mm => .ext .pmceid1 op.request mm
  | .extPmceid2 op mm => .ext .pmceid2 op.request mm
  | .extPmceid3 op mm => .ext .pmceid3 op.request mm
  | .extPmitctrl op mm => .ext .pmitctrl op.request mm
  | .extPmdevaff0 op mm => .ext .pmdevaff0 op.request mm
  | .extPmdevaff1 op mm => .ext .pmdevaff1 op.request mm
  | .extPmlar op mm => .ext .pmlar op.request mm
  | .extPmlsr op mm => .ext .pmlsr op.request mm
  | .extPmauthstatus op mm => .ext .pmauthstatus op.request mm
  | .extPmdevarch op mm => .ext .pmdevarch op.request mm
  | .extPmdevid op mm => .ext .pmdevid op.request mm
  | .extPmdevtype op mm => .ext .pmdevtype op.request mm
  | .extPmpidr4 op mm => .ext .pmpidr4 op.request mm
  | .extPmpidr0 op mm => .ext .pmpidr0 op.request mm
  | .extPmpidr1 op mm => .ext .pmpidr1 op.request mm
  | .extPmpidr2 op mm => .ext .pmpidr2 op.request mm
  | .extPmpidr3 op mm => .ext .pmpidr3 op.request mm
  | .extPmcidr0 op mm => .ext .pmcidr0 op.request mm
  | .extPmcidr1 op mm => .ext .pmcidr1 op.request mm
  | .extPmcidr2 op mm => .ext .pmcidr2 op.request mm
  | .extPmcidr3 op mm => .ext .pmcidr3 op.request mm
  | .extReserved off op mm => .ext (.reserved off) op.request mm

/-- The MRS or MSR of a register, where the table has one: MRS of PMSWINC_EL0 and MSR of PMCEID0_EL0 and PMCEID1_EL0
are not allocated (30_encoding R327; 90 C3). -/
def a64Instr (r : A64Reg) (wr : Bool) (t : BitVec 5) : Option Instr :=
  match r, wr with
  | .pmcr, false => some (.mrsPmcr t)
  | .pmcr, true => some (.msrPmcr t)
  | .pmcntenset, false => some (.mrsPmcntenset t)
  | .pmcntenset, true => some (.msrPmcntenset t)
  | .pmcntenclr, false => some (.mrsPmcntenclr t)
  | .pmcntenclr, true => some (.msrPmcntenclr t)
  | .pmovsclr, false => some (.mrsPmovsclr t)
  | .pmovsclr, true => some (.msrPmovsclr t)
  | .pmswinc, true => some (.msrPmswinc t)
  | .pmselr, false => some (.mrsPmselr t)
  | .pmselr, true => some (.msrPmselr t)
  | .pmceid0, false => some (.mrsPmceid0 t)
  | .pmceid1, false => some (.mrsPmceid1 t)
  | .pmccntr, false => some (.mrsPmccntr t)
  | .pmccntr, true => some (.msrPmccntr t)
  | .pmxevtyper, false => some (.mrsPmxevtyper t)
  | .pmxevtyper, true => some (.msrPmxevtyper t)
  | .pmxevcntr, false => some (.mrsPmxevcntr t)
  | .pmxevcntr, true => some (.msrPmxevcntr t)
  | .pmuserenr, false => some (.mrsPmuserenr t)
  | .pmuserenr, true => some (.msrPmuserenr t)
  | .pmintenset, false => some (.mrsPmintenset t)
  | .pmintenset, true => some (.msrPmintenset t)
  | .pmintenclr, false => some (.mrsPmintenclr t)
  | .pmintenclr, true => some (.msrPmintenclr t)
  | .pmovsset, false => some (.mrsPmovsset t)
  | .pmovsset, true => some (.msrPmovsset t)
  | .pmccfiltr, false => some (.mrsPmccfiltr t)
  | .pmccfiltr, true => some (.msrPmccfiltr t)
  | .pmevcntr n, false => some (.mrsPmevcntrn n t)
  | .pmevcntr n, true => some (.msrPmevcntrn n t)
  | .pmevtyper n, false => some (.mrsPmevtypern n t)
  | .pmevtyper n, true => some (.msrPmevtypern n t)
  | .pmswinc, false => none
  | .pmceid0, true => none
  | .pmceid1, true => none

/-- The MRC or MCR of a register, where the table has one (30_encoding R336; 90 C3). -/
def a32Instr (r : A32Reg) (wr : Bool) (c t : BitVec 4) : Option Instr :=
  match r, wr with
  | .pmcr, false => some (.mrcPmcr c t)
  | .pmcr, true => some (.mcrPmcr c t)
  | .pmcntenset, false => some (.mrcPmcntenset c t)
  | .pmcntenset, true => some (.mcrPmcntenset c t)
  | .pmcntenclr, false => some (.mrcPmcntenclr c t)
  | .pmcntenclr, true => some (.mcrPmcntenclr c t)
  | .pmovsr, false => some (.mrcPmovsr c t)
  | .pmovsr, true => some (.mcrPmovsr c t)
  | .pmswinc, true => some (.mcrPmswinc c t)
  | .pmselr, false => some (.mrcPmselr c t)
  | .pmselr, true => some (.mcrPmselr c t)
  | .pmceid0, false => some (.mrcPmceid0 c t)
  | .pmceid1, false => some (.mrcPmceid1 c t)
  | .pmccntr, false => some (.mrcPmccntr c t)
  | .pmccntr, true => some (.mcrPmccntr c t)
  | .pmxevtyper, false => some (.mrcPmxevtyper c t)
  | .pmxevtyper, true => some (.mcrPmxevtyper c t)
  | .pmxevcntr, false => some (.mrcPmxevcntr c t)
  | .pmxevcntr, true => some (.mcrPmxevcntr c t)
  | .pmuserenr, false => some (.mrcPmuserenr c t)
  | .pmuserenr, true => some (.mcrPmuserenr c t)
  | .pmintenset, false => some (.mrcPmintenset c t)
  | .pmintenset, true => some (.mcrPmintenset c t)
  | .pmintenclr, false => some (.mrcPmintenclr c t)
  | .pmintenclr, true => some (.mcrPmintenclr c t)
  | .pmovsset, false => some (.mrcPmovsset c t)
  | .pmovsset, true => some (.mcrPmovsset c t)
  | .pmceid2, false => some (.mrcPmceid2 c t)
  | .pmceid3, false => some (.mrcPmceid3 c t)
  | .pmccfiltr, false => some (.mrcPmccfiltr c t)
  | .pmccfiltr, true => some (.mcrPmccfiltr c t)
  | .pmevcntr n, false => some (.mrcPmevcntrn c n t)
  | .pmevcntr n, true => some (.mcrPmevcntrn c n t)
  | .pmevtyper n, false => some (.mrcPmevtypern c n t)
  | .pmevtyper n, true => some (.mcrPmevtypern c n t)
  | .pmswinc, false => none
  | .pmceid0, true => none
  | .pmceid1, true => none
  | .pmceid2, true => none
  | .pmceid3, true => none

/-- The external access to a register: a 64-bit read is defined at PMPCSR[31:0] only (20_memory R291). -/
def extInstr (r : ExtReg) (q : PcsrOp) (mm : Bool) : Option Instr :=
  match r with
  | .pmevcntr n => q.word.map fun op => .extPmevcntrn n op mm
  | .pmccntrLo => q.word.map fun op => .extPmccntrLo op mm
  | .pmccntrHi => q.word.map fun op => .extPmccntrHi op mm
  | .pmpcsrLo alt => some (.extPmpcsrLo alt q mm)
  | .pmpcsrHi alt => q.word.map fun op => .extPmpcsrHi alt op mm
  | .pmcid1sr alt => q.word.map fun op => .extPmcid1sr alt op mm
  | .pmvidsr => q.word.map fun op => .extPmvidsr op mm
  | .pmcid2sr => q.word.map fun op => .extPmcid2sr op mm
  | .pmevtyper n => q.word.map fun op => .extPmevtypern n op mm
  | .pmccfiltr => q.word.map fun op => .extPmccfiltr op mm
  | .pmcntenset => q.word.map fun op => .extPmcntenset op mm
  | .pmcntenclr => q.word.map fun op => .extPmcntenclr op mm
  | .pmintenset => q.word.map fun op => .extPmintenset op mm
  | .pmintenclr => q.word.map fun op => .extPmintenclr op mm
  | .pmovsclr => q.word.map fun op => .extPmovsclr op mm
  | .pmswinc => q.word.map fun op => .extPmswinc op mm
  | .pmovsset => q.word.map fun op => .extPmovsset op mm
  | .pmcfgr => q.word.map fun op => .extPmcfgr op mm
  | .pmcr => q.word.map fun op => .extPmcr op mm
  | .pmceid0 => q.word.map fun op => .extPmceid0 op mm
  | .pmceid1 => q.word.map fun op => .extPmceid1 op mm
  | .pmceid2 => q.word.map fun op => .extPmceid2 op mm
  | .pmceid3 => q.word.map fun op => .extPmceid3 op mm
  | .pmitctrl => q.word.map fun op => .extPmitctrl op mm
  | .pmdevaff0 => q.word.map fun op => .extPmdevaff0 op mm
  | .pmdevaff1 => q.word.map fun op => .extPmdevaff1 op mm
  | .pmlar => q.word.map fun op => .extPmlar op mm
  | .pmlsr => q.word.map fun op => .extPmlsr op mm
  | .pmauthstatus => q.word.map fun op => .extPmauthstatus op mm
  | .pmdevarch => q.word.map fun op => .extPmdevarch op mm
  | .pmdevid => q.word.map fun op => .extPmdevid op mm
  | .pmdevtype => q.word.map fun op => .extPmdevtype op mm
  | .pmpidr4 => q.word.map fun op => .extPmpidr4 op mm
  | .pmpidr0 => q.word.map fun op => .extPmpidr0 op mm
  | .pmpidr1 => q.word.map fun op => .extPmpidr1 op mm
  | .pmpidr2 => q.word.map fun op => .extPmpidr2 op mm
  | .pmpidr3 => q.word.map fun op => .extPmpidr3 op mm
  | .pmcidr0 => q.word.map fun op => .extPmcidr0 op mm
  | .pmcidr1 => q.word.map fun op => .extPmcidr1 op mm
  | .pmcidr2 => q.word.map fun op => .extPmcidr2 op mm
  | .pmcidr3 => q.word.map fun op => .extPmcidr3 op mm
  | .reserved off => q.word.map fun op => .extReserved off op mm

/-! ### Decoding -/

/-- Why a word or a bus access is no instruction of the table. -/
inductive DecodeError where
  /-- The word is none of the six formats: the rest of the instruction sets is out of scope (00_scope R8). -/
  | outsideSpec (w : W32)
  /-- The format is one of the six and no register matches: UNDEFINED (30_encoding R339). -/
  | unallocated (isa : Isa) (c : BitVec 4)
  /-- The word accesses a context register of spec/12_context_registers.md. -/
  | context (a : CtxAccess)
  /-- A size of external access that is not defined (20_memory R291). -/
  | undefinedSize (size : Nat)
  /-- An offset that is not a multiple of the size (20_memory R285, R291). -/
  | misaligned (offset : BitVec 12)
  /-- Fewer bytes than an instruction has. -/
  | truncated
  deriving DecidableEq, Repr

/-- MRS and MSR (30_encoding R321). op0 is 0b10 + o0, so the selector is 1 and bits [19:5]. -/
def decodeA64 (w : W32) : Except DecodeError Instr :=
  if w.extractLsb' 22 10 == 0b1101010100#10 && w.getLsbD 20 then
    let wr := !w.getLsbD 21
    let t := w.extractLsb' 0 5
    let k : Sel64 := ⟨1#1 ++ w.extractLsb' 19 1, w.extractLsb' 16 3, w.extractLsb' 12 4, w.extractLsb' 8 4,
      w.extractLsb' 5 3⟩
    match a64RegOf k with
    | some r =>
      match a64Instr r wr t with
      | some i => .ok i
      | none => .error (.unallocated .a64 14)
    | none =>
      match ctx64Regs.find? (fun r => r.sel == k) with
      | some r => .error (.context (.a64 r wr t))
      | none => .error (.unallocated .a64 14)
  else .error (.outsideSpec w)

/-- MRC, MCR (30_encoding R331), MRRC and MCRR (R332). -/
def decodeA32 (w : W32) : Except DecodeError Instr :=
  let c := w.extractLsb' 28 4
  let wr := !w.getLsbD 20
  let t := w.extractLsb' 12 4
  if !wfCond c || w.extractLsb' 8 4 != 0xF then .error (.outsideSpec w)
  else if w.extractLsb' 24 4 == 0xE && w.getLsbD 4 then
    let k : Sel32 := ⟨w.extractLsb' 21 3, w.extractLsb' 16 4, w.extractLsb' 0 4, w.extractLsb' 5 3⟩
    match a32RegOf k with
    | some r =>
      match a32Instr r wr c t with
      | some i => .ok i
      | none => .error (.unallocated .a32 c)
    | none =>
      match ctx32Regs.find? (fun r => r.sel == k) with
      | some r => .error (.context (.a32 r wr c t))
      | none => .error (.unallocated .a32 c)
  else if w.extractLsb' 21 7 == 0b1100010#7 then
    if w.extractLsb' 4 4 == 0 && w.extractLsb' 0 4 == 9 then
      if wr then .ok (.mcrrPmccntr c t (w.extractLsb' 16 4)) else .ok (.mrrcPmccntr c t (w.extractLsb' 16 4))
    else .error (.unallocated .a32 c)
  else .error (.outsideSpec w)

/-- The T32 encodings are the A32 words with 0b1110 in the top four bits (30_encoding R331). Log 10. -/
def decodeT32 (w : W32) : Except DecodeError Instr :=
  if w.extractLsb' 28 4 == 14 then decodeA32 w else .error (.outsideSpec w)

/-- An instruction word in an instruction set. -/
def decodeWord : Isa → W32 → Except DecodeError Instr
  | .a64, w => decodeA64 w
  | .a32, w => decodeA32 w
  | .t32, w => decodeT32 w

/-- An access of the external agent (30_encoding R338; 20_memory R291). -/
def decodeBus (a : BusAccess) : Except DecodeError Instr :=
  if a.size == 4 || (a.size == 8 && a.data.isNone) then
    if a.offset.toNat % a.size == 0 then
      let q : PcsrOp :=
        match a.data with
        | some v => .write v
        | none => if a.size == 8 then .read64 else .read
      match extInstr (extRegOf a.offset) q a.mm with
      | some i => .ok i
      | none => .error (.undefinedSize a.size)
    else .error (.misaligned a.offset)
  else .error (.undefinedSize a.size)

/-- An access in its encoded form: an instruction word of an instruction set, or a bus access. -/
inductive Encoded where
  | word (isa : Isa) (w : W32)
  | bus (a : BusAccess)
  deriving DecidableEq, Repr

/-- Decoding of either form. -/
def decode : Encoded → Except DecodeError Instr
  | .word isa w => decodeWord isa w
  | .bus a => decodeBus a

/-- The word that four bytes hold: little-endian in A64 and A32, two little-endian halfwords with the upper one first
in T32 (95 section 3; 30_encoding R331). Log 8, log 10. -/
def wordOfBytes : Isa → Byte → Byte → Byte → Byte → W32
  | .t32, b0, b1, b2, b3 => b1 ++ b0 ++ b3 ++ b2
  | _, b0, b1, b2, b3 => b3 ++ b2 ++ b1 ++ b0

/-- Decoding from bytes, the first at the lowest address; the rest of the bytes is handed back. -/
def decodeBytes (isa : Isa) : List Byte → Except DecodeError (Instr × List Byte)
  | b0 :: b1 :: b2 :: b3 :: rest =>
    match decodeWord isa (wordOfBytes isa b0 b1 b2 b3) with
    | .ok i => .ok (i, rest)
    | .error e => .error e
  | _ => .error .truncated

/-! ### Encoding -/

/-- The word of MRS (wr = false) or MSR (30_encoding R321). -/
def encodeA64 (k : Sel64) (wr : Bool) (t : BitVec 5) : W32 :=
  0b1101010100#10 ++ BitVec.ofBool (!wr) ++ 1#1 ++ k.op0.extractLsb' 0 1 ++ k.op1 ++ k.crn ++ k.crm ++ k.op2 ++ t

/-- The word of MRC (wr = false) or MCR (30_encoding R331). -/
def encodeA32 (k : Sel32) (wr : Bool) (c t : BitVec 4) : W32 :=
  c ++ 0b1110#4 ++ k.opc1 ++ BitVec.ofBool (!wr) ++ k.crn ++ t ++ 0b1111#4 ++ k.opc2 ++ 1#1 ++ k.crm

/-- The word of MRRC (wr = false) or MCRR of PMCCNTR: opc1 = 0, CRm = c9 (30_encoding R332). -/
def encodeA32Wide (wr : Bool) (c t t2 : BitVec 4) : W32 :=
  c ++ 0b1100010#7 ++ BitVec.ofBool (!wr) ++ t2 ++ t ++ 0b1111#4 ++ 0#4 ++ 9#4

/-- The bus access of a request at an offset. -/
def encodeBus (off : BitVec 12) (q : PcsrOp) (mm : Bool) : BusAccess :=
  match q with
  | .read => ⟨off, 4, none, mm⟩
  | .write v => ⟨off, 4, some v, mm⟩
  | .read64 => ⟨off, 8, none, mm⟩

/-- The encoded form of an instruction. -/
def encode (i : Instr) : Encoded :=
  match i.form with
  | .a64 r wr t => .word .a64 (encodeA64 r.sel wr t)
  | .a32 r wr c t => .word .a32 (encodeA32 r.sel wr c t)
  | .a32Wide wr c t t2 => .word .a32 (encodeA32Wide wr c t t2)
  | .ext r q mm => .bus (encodeBus r.offset q mm)

/-- The four bytes of a word, the first at the lowest address. -/
def bytesOfWord (isa : Isa) (w : W32) : List Byte :=
  match isa with
  | .t32 => [w.extractLsb' 16 8, w.extractLsb' 24 8, w.extractLsb' 0 8, w.extractLsb' 8 8]
  | _ => [w.extractLsb' 0 8, w.extractLsb' 8 8, w.extractLsb' 16 8, w.extractLsb' 24 8]

/-! ### The opcode table's words -/

/-- The word of an opcode-table row: every bit above nbits is 0. -/
def tableWord (nbits w : Nat) : W32 := BitVec.ofNat 32 (w % 2 ^ nbits)

/-- The instruction set a word of the table belongs to: an AArch64 word of the table is no MRC, MCR, MRRC or MCRR, so
the decoders decide it. -/
def tableIsa (w : W32) : Isa :=
  match decodeA64 w with
  | .error (.outsideSpec _) => .a32
  | _ => .a64

/-- The instruction the decoder reads from a word of the opcode table, laid out as bytes. -/
def decodeTableWord (nbits w : Nat) : Option Instr :=
  let v := tableWord nbits w
  match decodeBytes (tableIsa v) (bytesOfWord (tableIsa v) v) with
  | .ok (i, _) => some i
  | .error _ => none

end Sys2Proof
end

