-- ==== Sys2Proof/Machine/State.lean ====
section
/-! DEFINITION. Everything the machine holds (spec/10_state.md R20, R26, R30; spec/12_context_registers.md;
spec/60_exceptions.md R593, R620, R640 to R642; spec/70_reset_and_hazards.md R650 to R653), and the reasons it can stop. -/
namespace Sys2Proof.Machine

open Sys2Proof

/-- The Exception levels (60_exceptions R640). -/
inductive EL where
  | el0
  | el1
  | el2
  | el3
  deriving DecidableEq, Repr

/-- The AArch32 modes, CPSR.M (60_exceptions R640). -/
inductive Mode where
  | user
  | fiq
  | irq
  | supervisor
  | monitor
  | abort
  | hyp
  | undefined
  | system
  deriving DecidableEq, Repr

/-- The Execution states a reset can go into (70_reset R651). -/
inductive ExecState where
  | aarch64
  | aarch32
  deriving DecidableEq, Repr

/-- The context of a counting step: Exception level and Security state (43_counting R540). EL2 exists only
Non-secure and EL3 only Secure (60_exceptions R641). -/
inductive Ctx where
  | secureEl0
  | secureEl1
  | nonSecureEl0
  | nonSecureEl1
  | nonSecureEl2
  | secureEl3
  deriving DecidableEq, Repr

/-- The thread an event comes from (43_counting R540, R552). -/
inductive Source where
  | own
  | sibling
  deriving DecidableEq, Repr

/-- What a power-up finds (70_reset R652); a loss of state is a Cold reset, into an Execution state (R651). -/
inductive PowerKind where
  | retained
  | lost (into : ExecState)
  deriving DecidableEq, Repr

/-- The writable bits of PMCR (10_state R20; 11_pmu R85 to R91). -/
structure Cr where
  lc : Bool
  dp : Bool
  x : Bool
  d : Bool
  e : Bool
  deriving DecidableEq, Repr

/-- PMUSERENR (10_state R20; 11_pmu R108). -/
structure UserEn where
  er : Bool
  cr : Bool
  sw : Bool
  en : Bool
  deriving DecidableEq, Repr

/-- The PMU state of spec/10_state.md R20. Slots of `evcnt` and `evtype` at and above N do not exist (R35): nothing
reads or writes them. -/
structure Pmu where
  /-- EVCNT[n]. -/
  evcnt : Vector W32 31
  /-- EVTYPE[n]. -/
  evtype : Vector W32 31
  /-- CCNT. -/
  ccnt : W64
  /-- CCFILT. -/
  ccfilt : W32
  /-- CNTEN. -/
  cnten : W32
  /-- INTEN. -/
  inten : W32
  /-- OVS. -/
  ovs : W32
  cr : Cr
  /-- SEL. -/
  sel : BitVec 5
  useren : UserEn
  /-- DIV64, the hidden prescaler phase (10_state R50). -/
  div64 : BitVec 6
  /-- SLK. -/
  slk : Bool
  /-- ITCTRL.IME. -/
  ime : Bool
  /-- PCS.PMPCSR. -/
  pcsr : W64
  /-- PCS.CID1. -/
  cid1 : W32
  /-- PCS.CID2. -/
  cid2 : W32
  /-- PCS.VID. -/
  vid : BitVec 16
  deriving DecidableEq, Repr

/-- The registers of the surrounding PE that PMU rules read (spec/12_context_registers.md). -/
structure Ctl where
  /-- MDCR_EL2 = HDCR (12_context R160). -/
  mdcr2 : W32
  /-- MDCR_EL3 and SDCR: one storage (12_context R170, R173; 92 D14; log 27). -/
  mdcr3 : W32
  /-- SDER32_EL3 = SDER (12_context R175). -/
  sder : W32
  /-- HSTR_EL2 = HSTR (12_context R180). -/
  hstr : W32
  /-- HCR_EL2; its low word is HCR (12_context R182). -/
  hcr : W64
  /-- SCR_EL3 = SCR (12_context R184). -/
  scr : W32
  /-- OSLSR_EL1.OSLK (12_context R190). -/
  oslk : Bool
  /-- OSDLR_EL1.DLK (12_context R192). -/
  dlk : Bool
  /-- DBGPRCR_EL1.CORENPDRQ (12_context R193). -/
  corenpdrq : Bool
  /-- EDPRSR.SPMAD (12_context R205). -/
  spmad : Bool
  deriving DecidableEq, Repr

/-- The process state a saved program status holds: Exception level, AArch32 mode, T32 bit, the condition the IT state
gives the next T32 instruction, and the condition flags. The rest of PSTATE is out of scope (00_scope R8). Log 11. -/
structure Proc where
  el : EL
  mode : Mode
  t32 : Bool
  itCond : BitVec 4
  flagN : Bool
  flagZ : Bool
  flagC : Bool
  flagV : Bool
  deriving DecidableEq, Repr

/-- The parts of the PE that a register access or an exception touches (10_state R26, R27; 60_exceptions R593, R620,
R640, R642). -/
structure Pe where
  /-- X[0..30]. -/
  x : Vector W64 31
  /-- R[0..14], of the current mode (log 49). -/
  r : Vector W32 15
  pc : W64
  ps : Proc
  /-- Whether EL0, EL1, EL2, EL3 use AArch32 (60_exceptions R642). -/
  aa32El0 : Bool
  aa32El1 : Bool
  aa32El2 : Bool
  aa32El3 : Bool
  /-- ESR_EL1. -/
  esr1 : W32
  /-- ESR_EL2 = HSR. -/
  esr2 : W32
  /-- ESR_EL3. -/
  esr3 : W32
  /-- ELR_EL1. -/
  elr1 : W64
  /-- ELR_EL2 = ELR_hyp. -/
  elr2 : W64
  /-- ELR_EL3. -/
  elr3 : W64
  /-- LR_und. -/
  lrUnd : W32
  /-- SPSR_EL1, SPSR_EL2 = SPSR_hyp, SPSR_EL3, SPSR_und. -/
  spsr1 : Proc
  spsr2 : Proc
  spsr3 : Proc
  spsrUnd : Proc
  /-- VBAR_EL1 = VBAR, VBAR_EL2 = HVBAR, VBAR_EL3. -/
  vbar1 : W64
  vbar2 : W64
  vbar3 : W64
  deriving DecidableEq, Repr

/-- The instruction a PMPCSR read samples, and the context that goes with it (13_external R251 to R255). A pending
write of CONTEXTIDR_ELx, before the next Context synchronization event, leaves the old value possible (70_reset R674). -/
structure Sample where
  pc : BitVec 56
  el : EL
  nonSecure : Bool
  cid1 : W32
  cid1Old : W32
  cid1Pending : Bool
  cid2 : W32
  cid2Old : W32
  cid2Pending : Bool
  vmid : BitVec 16
  /-- VTTBR.VMID[15:8] are in use. -/
  vmidWide : Bool
  deriving DecidableEq, Repr

/-- The level inputs of the model (12_context R194, R201; 13_external R251). -/
structure Env where
  /-- IsCorePowered. -/
  powered : Bool
  /-- InDebugState. -/
  inDebug : Bool
  /-- The PE is in Reset state. -/
  inReset : Bool
  /-- PCSampleProhibited. -/
  pcProhibited : Bool
  /-- An instruction has been retired since the PE left Reset state, Debug state or a prohibited state. -/
  retired : Bool
  sample : Sample
  deriving DecidableEq, Repr

/-- What an external access answered (42_external R480). -/
inductive Response where
  /-- No external access has been made. -/
  | none
  /-- A write was taken, or ignored. -/
  | ok
  /-- A read of a word. -/
  | data (v : W32)
  /-- The 64-bit read of PMPCSR (13_external R252). -/
  | data64 (v : W64)
  /-- The access returned Error. -/
  | error
  deriving DecidableEq, Repr

/-- An exception a PE instruction ended in (60_exceptions R590). -/
inductive Exc where
  /-- `Exception(target, ec, il, iss)` with the syndrome word ec:il:iss. -/
  | toAArch64 (target : EL) (esr : W32)
  /-- `ExceptionA32(Undefined, -)`. -/
  | toUndefined
  /-- `ExceptionA32(Hyp, hsr)`. -/
  | toHyp (hsr : W32)
  deriving DecidableEq, Repr

/-- One event of the total order of spec/20_memory.md R300. Log 6. -/
inductive Input where
  /-- The PE executes its next instruction. -/
  | pe
  /-- An external access at an offset of the block (42_external R480). -/
  | bus (a : BusAccess)
  /-- A memory-mapped access at a physical address (20_memory R280). -/
  | memMapped (addr : W64) (size : Nat) (data : Option W32)
  /-- `CycleStep(ctx)` (43_counting R540). -/
  | cycle (c : Ctx)
  /-- `EventStep(e, ctx, src, k)`, k at least 1 and e not SW_INCR (43_counting R540). -/
  | event (e : BitVec 16) (c : Ctx) (src : Source) (k : Nat)
  | warmReset (into : ExecState)
  | coldReset (into : ExecState)
  | externalDebugReset
  | powerDown
  | powerUp (kind : PowerKind)
  | setDebugState (b : Bool)
  | setResetState (b : Bool)
  | setPcSampleProhibited (b : Bool)
  | setSample (s : Sample)
  /-- A read of EDPRSR; `locked`: memory-mapped with the Debug component's Software Lock set (12_context R205). -/
  | readEdprsr (locked : Bool)
  /-- The debugger writes the external OSLAR_EL1 (12_context R191; 70_reset R661). -/
  | debuggerOslar (v : W32)
  /-- The debugger writes EDPRCR.CORENPDRQ (12_context R193). -/
  | debuggerCorenpdrq (b : Bool)
  /-- A read of EDDFR, its low word at 0xD28 or its high word at 0xD2C (12_context R186; log 42). -/
  | readEddfr (high : Bool)
  /-- The PE returns from the exception its current level or mode took (60_exceptions R621); the address and the process
  state are those of a mode for which the spec names no saved state (log 12). -/
  | exceptionReturn (pc : W64) (ps : Proc)
  /-- An instruction that is out of scope has been retired (00_scope R8; 13_external R251; log 41). -/
  | retireInstruction
  /-- The rest of the PE, whose instructions are out of scope, moves (00_scope R8; log 6). -/
  | setX (t : Fin 31) (v : W64)
  | setR (t : Fin 15) (v : W32)
  | setPc (v : W64)
  | setProcess (p : Proc) (aa32El0 aa32El1 aa32El2 aa32El3 : Bool)
  | setVbar (target : EL) (v : W64)
  | setMemory (addr : W64) (v : Byte)
  deriving DecidableEq, Repr

/-- The machine. -/
structure State where
  /-- The implementation parameters, constant (00_scope R9; log 1). -/
  cfg : Config
  pmu : Pmu
  ctl : Ctl
  pe : Pe
  env : Env
  /-- The PE's instruction memory, in canonical form (log 8). -/
  mem : List Host.Cell
  /-- The events that move before the PE's next instruction (log 6). -/
  agenda : List Input
  /-- What the last external access answered (log 40). -/
  resp : Response
  /-- The exception the last PE instruction ended in; none if it completed. -/
  exc : Option Exc
  /-- The counter the free values are drawn at (log 5). -/
  freeCtr : Nat
  deriving DecidableEq, Repr

/-- Why the machine stops. -/
inductive Fault where
  /-- Raised by the fetch: a byte of the instruction was never written. Safe: no claim about a run that goes on
  follows. Log 8. -/
  | fetchUnwritten (addr : Nat)
  /-- Raised by the step while PMITCTRL.IME = 1: integration mode is IMPLEMENTATION DEFINED and the model is stuck
  (13_external R225; 93 U14). Safe. Log 37. -/
  | integrationMode
  /-- Raised by an exception return to a state that cannot be returned to (60_exceptions R621): the effect of an
  illegal exception return is not in the sources. Safe. Log 12. -/
  | illegalExceptionReturn
  deriving DecidableEq, Repr

/-- What the machine has no meaning for. -/
inductive Refusal where
  /-- Raised by an arm of exec whose instruction has no meaning yet. Safe. -/
  | notModelled (mnemonic : String)
  /-- Raised by the step on a word that is none of the six formats of spec/30_encoding.md R320: the rest of the
  instruction sets is out of scope (00_scope R8). Safe. Log 44. -/
  | outsideSpec (w : W32)
  /-- Raised by an AArch32 access with Rt = 15, Rt2 = 15, or Rt = Rt2 in MRRC, which the spec refuses
  (30_encoding R334; 92 D4). Safe. Log 20. -/
  | unpredictableRegister
  /-- Raised by an external access of a size or alignment that is not defined (20_memory R291; 92 D21), the 64-bit
  PMPCSR read without PMPCSR64BitAtomic included. Safe. Log 33. -/
  | undefinedAccessSize
  /-- Raised by an external access when the implementation has no external block (00_scope R9). Safe. Log 39. -/
  | noExternalView
  /-- Raised by a memory-mapped access when the implementation has none, or outside the block (00_scope R9). Safe.
  Log 30. -/
  | noMemMappedView
  /-- Raised by a PE instruction in Debug state, whose behaviour is not in the sources (91 N18). Safe. Log 47. -/
  | debugState
  /-- Raised by a PE instruction, an exception return or a move of the rest of the PE with the core off: the PE does not
  execute (20_memory R287). Safe. Log 47. -/
  | corePoweredOff
  /-- Raised by a PE instruction while the PE is held in Reset state (13_external R251). Safe. Log 47. -/
  | heldInReset
  /-- Raised by an input that moves the PE to a process state that cannot occur (60_exceptions R640 to R642).
  Safe. Log 6. -/
  | impossibleProcessState
  /-- Raised by an event step that the counting hardware is not delivered: SW_INCR, event 0x0000, which only R556
  applies, or no occurrence at all (43_counting R540). Safe. Log 36. -/
  | notAnEventStep
  /-- Raised by an exception return at EL0, to which no exception is taken (60_exceptions R596, R621). Safe. Log 12. -/
  | returnFromEl0
  deriving DecidableEq, Repr

/-- What a step answers. -/
abbrev Out := Host.Outcome State Fault Refusal

/-! ### The machine after reset -/

/-- The saved program statuses before any exception was taken. DESIGN CHOICE, log 4. -/
def Proc.reset : Proc where
  el := .el0
  mode := .supervisor
  t32 := false
  itCond := 14
  flagN := false
  flagZ := false
  flagC := false
  flagV := false

/-- 10_state R32: E = 0 is the spec's; the other values are DESIGN CHOICE, log 2. SLK = 1 after an External debug
reset, IME = 0. -/
def Pmu.reset : Pmu where
  evcnt := Vector.replicate 31 0
  evtype := Vector.replicate 31 0
  ccnt := 0
  ccfilt := 0
  cnten := 0
  inten := 0
  ovs := 0
  cr := ⟨false, false, false, false, false⟩
  sel := 0
  useren := ⟨false, false, false, false⟩
  div64 := 0
  slk := true
  ime := false
  pcsr := 0
  cid1 := 0
  cid2 := 0
  vid := 0

/-- HPMN = N and HPMD = 0 (12_context R167), SPME = EPMAD = 0 (R171, R172), SCR.NS = 0 (R184), OSLK = 1 (R190),
DLK = 0 (R192) and SPMAD = 0 (R205) are the spec's; the other values are DESIGN CHOICE, log 3: SCR_EL3.RW = HCR_EL2.RW = 1,
which R642 asks for where the levels below EL3 use AArch64, and zeros. -/
def Ctl.reset (c : Config) : Ctl where
  mdcr2 := BitVec.ofNat 32 c.n.val
  mdcr3 := 0
  sder := 0
  hstr := 0
  hcr := 0x80000000
  scr := 0x400
  oslk := true
  dlk := false
  corenpdrq := false
  spmad := false

/-- The PE starts at the highest implemented Exception level at its reset vector (70_reset R654), here in AArch64;
the other values are DESIGN CHOICE, log 4. -/
def Pe.reset (c : Config) : Pe where
  x := Vector.replicate 31 0
  r := Vector.replicate 15 0
  pc := c.resetVector64
  ps := { Proc.reset with el := if c.haveEL3 then .el3 else if c.haveEL2 then .el2 else .el1 }
  aa32El0 := false
  aa32El1 := false
  aa32El2 := false
  aa32El3 := false
  esr1 := 0
  esr2 := 0
  esr3 := 0
  elr1 := 0
  elr2 := 0
  elr3 := 0
  lrUnd := 0
  spsr1 := Proc.reset
  spsr2 := Proc.reset
  spsr3 := Proc.reset
  spsrUnd := Proc.reset
  vbar1 := 0
  vbar2 := 0
  vbar3 := 0

/-- The sample input before the environment sets one. DESIGN CHOICE, log 41. -/
def Sample.reset : Sample where
  pc := 0
  el := .el0
  nonSecure := false
  cid1 := 0
  cid1Old := 0
  cid1Pending := false
  cid2 := 0
  cid2Old := 0
  cid2Pending := false
  vmid := 0
  vmidWide := false

/-- The inputs after reset: the core is powered, not in Debug state, not held in reset, nothing retired yet. -/
def Env.reset : Env where
  powered := true
  inDebug := false
  inReset := false
  pcProhibited := false
  retired := false
  sample := Sample.reset

/-- The machine of an implementation after a Cold reset into AArch64 and an External debug reset (70_reset R653). -/
def State.resetOf (c : Config) : State where
  cfg := c
  pmu := { Pmu.reset with slk := c.softwareLock }
  ctl := Ctl.reset c
  pe := Pe.reset c
  env := Env.reset
  mem := []
  agenda := []
  resp := .none
  exc := none
  freeCtr := 0

/-- The machine right after reset, for the implementation CFG-A (log 1). -/
def State.reset : State := State.resetOf Config.cfgA

end Sys2Proof.Machine
end

