-- ==== Sys2Proof/Machine/Ops.lean ====
section
/-! DEFINITION. The named operations over memory, the general registers and the free values; Exception levels and
Security state (spec/60_exceptions.md R640 to R642); taking an exception and returning from one (R590, R593, R620, R621). -/
namespace Sys2Proof.Machine

open Sys2Proof

/-! ### Memory: the PE's instruction memory (log 8) -/

/-- The byte at an address; a byte that nothing has written has no value. -/
def memRead : List Host.Cell → Nat → Option Byte
  | [], _ => none
  | (k, b) :: rest, a => if k = a then some b else memRead rest a

/-- Writes one byte and keeps the addresses strictly rising. -/
def memWrite : List Host.Cell → Nat → Byte → List Host.Cell
  | [], a, v => [(a, v)]
  | (k, b) :: rest, a, v =>
    if a < k then (a, v) :: (k, b) :: rest
    else if a = k then (a, v) :: rest
    else (k, b) :: memWrite rest a v

/-- The canonical form: addresses of the 64-bit space, strictly rising. An unlisted address has no value, so no entry is
superfluous. -/
def memWf : List Host.Cell → Bool
  | [] => true
  | (k, _) :: rest => decide (k < 2 ^ 64) && rest.all (fun e => decide (k < e.1)) && memWf rest

/-- Writes bytes at consecutive addresses, modulo the address space. -/
def memWriteBytes (m : List Host.Cell) (a : W64) : List Byte → List Host.Cell
  | [] => m
  | b :: rest => memWriteBytes (memWrite m a.toNat b) (a + 1) rest

/-! ### Free values (00_scope R15; log 5) -/

/-- The k-th free value at this point of the run. -/
def draw (s : State) (k : Nat) : W64 := Config.freeValue (s.freeCtr + k)

/-- The free values below k are used up. -/
def bump (k : Nat) (s : State) : State := { s with freeCtr := s.freeCtr + k }

/-! ### General registers (10_state R26; 30_encoding R322, R323; 92 D4, D5) -/

/-- X[t]; register 31 reads as zero. -/
def readX (s : State) (t : BitVec 5) : W64 :=
  if h : t.toNat < 31 then s.pe.x[t.toNat] else 0

/-- Writes X[t]; a write of register 31 is discarded. -/
def writeX (t : BitVec 5) (v : W64) (s : State) : State :=
  if h : t.toNat < 31 then { s with pe := { s.pe with x := s.pe.x.set t.toNat v } } else s

/-- R[t], t below 15; R15 is refused before it is read. -/
def readR (s : State) (t : BitVec 4) : W32 :=
  if h : t.toNat < 15 then s.pe.r[t.toNat] else 0

/-- Writes R[t], t below 15. -/
def writeR (t : BitVec 4) (v : W32) (s : State) : State :=
  if h : t.toNat < 15 then { s with pe := { s.pe with r := s.pe.r.set t.toNat v } } else s

/-! ### Exception levels, Execution state, Security state -/

/-- The number of an Exception level. -/
def EL.level : EL → Nat
  | .el0 => 0
  | .el1 => 1
  | .el2 => 2
  | .el3 => 3

/-- EL0 and EL1 always exist; EL2 and EL3 are parameters (00_scope R9). -/
def elImplemented (c : Config) : EL → Bool
  | .el0 => true
  | .el1 => true
  | .el2 => c.haveEL2
  | .el3 => c.haveEL3

/-- The Execution states a level can use (00_scope R9, `EL_uses_AArch32`). -/
def elExec (c : Config) : EL → ExecSupport
  | .el0 => c.el0Exec
  | .el1 => c.el1Exec
  | .el2 => c.el2Exec
  | .el3 => c.el3Exec

/-- An implemented level that can use AArch32. -/
def canAArch32 (c : Config) (el : EL) : Bool := elImplemented c el && elExec c el != .aarch64Only

/-- Some Exception level can use AArch32: not an AArch64-only implementation (11_pmu R85, R88). -/
def anyAArch32 (c : Config) : Bool :=
  canAArch32 c .el0 || canAArch32 c .el1 || canAArch32 c .el2 || canAArch32 c .el3

/-- EL_uses_AArch32(el) (60_exceptions R642). -/
def usesAArch32 (s : State) : EL → Bool
  | .el0 => s.pe.aa32El0
  | .el1 => s.pe.aa32El1
  | .el2 => s.pe.aa32El2
  | .el3 => s.pe.aa32El3

/-- CurrentEL (60_exceptions R640). -/
def currentEL (s : State) : EL := s.pe.ps.el

/-- The current Execution state is AArch32. -/
def inAArch32 (s : State) : Bool := usesAArch32 s (currentEL s)

/-- SCR_EL3.NS = SCR.NS (12_context R184). -/
def scrNs (s : State) : Bool := s.ctl.scr.getLsbD 0

/-- The Security state at an Exception level (60_exceptions R641). -/
def secureAt (s : State) (el : EL) : Bool :=
  if s.cfg.haveEL3 then el == .el3 || (!scrNs s && (el == .el0 || el == .el1)) else s.cfg.secureWhenNoEL3

/-- IsSecure (60_exceptions R641). -/
def isSecure (s : State) : Bool := secureAt s (currentEL s)

/-- HCR_EL2.TGE and HCR_EL2.E2H (12_context R182). -/
def hcrTge (s : State) : Bool := s.ctl.hcr.getLsbD 27
def hcrE2h (s : State) : Bool := s.ctl.hcr.getLsbD 34

/-- Exceptions that would go from EL0 to EL1 go to EL2: TGE = 1 in Non-secure state with EL2 (60_exceptions R597). -/
def tgeReroutes (s : State) : Bool := s.cfg.haveEL2 && !isSecure s && hcrTge s

/-- The instruction set the PE executes (30_encoding R321, R331). -/
def currentIsa (s : State) : Isa := if inAArch32 s then (if s.pe.ps.t32 then .t32 else .a32) else .a64

/-! ### The program counter -/

/-- The address of the next instruction: pc + 4 in every instruction set (10_state R27). The wrap is not in the sources:
modulo 2^64 in AArch64 (DESIGN CHOICE) and modulo 2^32 in AArch32 (PRESUMED), log 4. -/
def nextPc (s : State) : W64 :=
  if inAArch32 s then (s.pe.pc.setWidth 32 + 4#32).setWidth 64 else s.pe.pc + 4

/-- The instruction completed (60_exceptions R590): the pc advances and an instruction has been retired. -/
def retire (s : State) : State :=
  { s with
    pe := { s.pe with pc := nextPc s }
    env := { s.env with retired := true }
    exc := none }

/-! ### Taking an exception (log 11) -/

/-- A code of the level and Execution state an exception is taken from, for the free handler address. -/
def sourceCode (s : State) : Nat := 2 * (currentEL s).level + (if inAArch32 s then 1 else 0)

/-- The Exception level of Undefined mode: in Secure state (Monitor mode included) with EL3 using AArch32 the PL1 modes
belong to EL3 (60_exceptions R640, R598). -/
def undefinedModeEL (s : State) : EL := if isSecure s && s.cfg.haveEL3 && s.pe.aa32El3 then .el3 else .el1

/-- The process state on entry to an AArch32 mode: the instruction set and the IT state of the handler are not in the
sources, so they are free; the condition flags stay (60_exceptions R620; log 11). -/
def entry32 (s : State) (el : EL) (mode : Mode) : Proc :=
  { s.pe.ps with el := el, mode := mode, t32 := (draw s 0).getLsbD 0, itCond := (draw s 1).setWidth 4 }

/-- LR_und holds the address of the next instruction for A32; for T32 it is not stated, so it is free
(60_exceptions R620). -/
def undefinedLink (s : State) : W32 :=
  if s.pe.ps.t32 then (draw s 2).setWidth 32 else s.pe.pc.setWidth 32 + 4#32

/-- Saves the syndrome, the return address and the process state of an exception taken to a level using AArch64
(60_exceptions R593, R620). No exception is taken to EL0. -/
def saveAt (p : Pe) (target : EL) (esr : W32) : Pe :=
  match target with
  | .el0 => p
  | .el1 => { p with esr1 := esr, elr1 := p.pc, spsr1 := p.ps }
  | .el2 => { p with esr2 := esr, elr2 := p.pc, spsr2 := p.ps }
  | .el3 => { p with esr3 := esr, elr3 := p.pc, spsr3 := p.ps }

/-- VBAR_ELx of a target (60_exceptions R620). -/
def vbarOf (p : Pe) : EL → W64
  | .el0 => p.vbar1
  | .el1 => p.vbar1
  | .el2 => p.vbar2
  | .el3 => p.vbar3

/-- What an exception entry leaves of the context registers: the sources do not say what SCR.NS becomes when an exception
is taken from Monitor mode with SCR.NS = 1; Undefined mode at EL3 is a Secure mode (60_exceptions R596, R640, R641), so NS
is cleared. PRESUMED, log 50. -/
def entryCtl (x : Exc) (s : State) : Ctl :=
  match x with
  | .toUndefined => if undefinedModeEL s == .el3 then { s.ctl with scr := s.ctl.scr &&& ~~~1#32 } else s.ctl
  | _ => s.ctl

/-- Where an exception is taken to: the level, the mode and the code of the handler. -/
def excTarget (x : Exc) (s : State) : EL :=
  match x with
  | .toAArch64 target _ => target
  | .toUndefined => undefinedModeEL s
  | .toHyp _ => .el2

/-- Taking an exception: the syndrome, the return address and the process state are saved, the target level or mode is
entered, and the pc goes to the handler. No PMU state and no general register changes, the instruction is not retired
(60_exceptions R590, R593, R620), and of the context registers only SCR.NS can change (log 50). Which PSTATE fields change is
not in the sources: the condition flags stay (PRESUMED), and into AArch64, where nothing reads them, so do the mode, the T32
bit and the IT condition (DESIGN CHOICE), log 11. -/
def takeException (x : Exc) (s : State) : State :=
  let pe :=
    match x with
    | .toAArch64 target esr =>
      { saveAt s.pe target esr with
        ps := { s.pe.ps with el := target }
        pc := Config.handlerAddress (vbarOf s.pe target) target.level (sourceCode s) }
    | .toUndefined =>
      { s.pe with
        lrUnd := undefinedLink s
        spsrUnd := s.pe.ps
        ps := entry32 s (undefinedModeEL s) .undefined
        pc := Config.handlerAddress (vbarOf s.pe (undefinedModeEL s)) 4 (sourceCode s) }
    | .toHyp hsr =>
      { s.pe with
        esr2 := hsr
        elr2 := s.pe.pc
        spsr2 := s.pe.ps
        ps := entry32 s .el2 .hyp
        pc := Config.handlerAddress s.pe.vbar2 5 (sourceCode s) }
  { s with ctl := entryCtl x s, pe := pe, exc := some x, freeCtr := s.freeCtr + 4 }

/-! ### UNDEFINED (60_exceptions R596; log 14) -/

/-- UndefTarget(el). -/
def undefTarget (s : State) : EL :=
  match currentEL s with
  | .el0 => if tgeReroutes s then .el2 else .el1
  | el => el

/-- The syndrome of an UNDEFINED instruction: EC 0, IL 1, ISS 0. -/
def undefSyndrome : W32 := 0x02000000

/-- The exception an UNDEFINED instruction ends in. -/
def undefinedExc (s : State) : Exc :=
  let t := undefTarget s
  if usesAArch32 s t then (if t == .el2 then .toHyp undefSyndrome else .toUndefined)
  else .toAArch64 t undefSyndrome

/-! ### Process states that can occur, and the return from an exception (log 12) -/

/-- The PL1 modes (60_exceptions R640). -/
def pl1Mode : Mode → Bool
  | .fiq => true
  | .irq => true
  | .supervisor => true
  | .abort => true
  | .undefined => true
  | .system => true
  | .user => false
  | .monitor => false
  | .hyp => false

/-- The AArch32 mode belongs to the Exception level (60_exceptions R640). In AArch64 the mode is not read. -/
def modeFits (s : State) : Bool :=
  !inAArch32 s ||
    match currentEL s with
    | .el0 => s.pe.ps.mode == .user
    | .el1 => pl1Mode s.pe.ps.mode && !(s.cfg.haveEL3 && s.pe.aa32El3 && !scrNs s)
    | .el2 => s.pe.ps.mode == .hyp
    | .el3 => s.pe.ps.mode == .monitor || (pl1Mode s.pe.ps.mode && !scrNs s)

/-- A level uses an Execution state it can use. -/
def execFits (s : State) (el : EL) : Bool :=
  !elImplemented s.cfg el || elExec s.cfg el == .both ||
    (if usesAArch32 s el then elExec s.cfg el == .aarch32Only else elExec s.cfg el == .aarch64Only)

/-- A level uses AArch32 only if every lower level does (60_exceptions R642). -/
def execOrdered (s : State) : Bool :=
  (!s.pe.aa32El1 || s.pe.aa32El0) &&
  (!(s.cfg.haveEL2 && s.pe.aa32El2) || (s.pe.aa32El1 && s.pe.aa32El0)) &&
  (!(s.cfg.haveEL3 && s.pe.aa32El3) || (s.pe.aa32El1 && s.pe.aa32El0 && (!s.cfg.haveEL2 || s.pe.aa32El2)))

/-- A level below EL3 can use AArch32. -/
def lowerAArch32 (c : Config) : Bool := canAArch32 c .el0 || canAArch32 c .el1 || canAArch32 c .el2

/-- SCR_EL3.RW: the next lower level is AArch64; RAO when no lower level can use AArch32 (12_context R184). -/
def scrRw (s : State) : Bool := s.ctl.scr.getLsbD 10 || !lowerAArch32 s.cfg

/-- HCR_EL2.RW: EL1 under EL2 is AArch64 (60_exceptions R642). Its place, bit 31, and that it acts as 1 with E2H = TGE = 1
are PRESUMED, log 51. -/
def hcrRw (s : State) : Bool := s.ctl.hcr.getLsbD 31 || (hcrE2h s && hcrTge s)

/-- SCR_EL3.RW acts: EL3 uses AArch64. -/
def scrGoverns (s : State) : Bool := s.cfg.haveEL3 && !s.pe.aa32El3

/-- AArch32 at a level where it is wanted, as far as the level can use the Execution state. -/
def pickAArch32 (c : Config) (el : EL) (want : Bool) : Bool :=
  match elExec c el with
  | .both => want
  | .aarch64Only => false
  | .aarch32Only => true

/-- Whether EL2 uses AArch32: SCR_EL3.RW decides, where it acts (12_context R184). -/
def settledEl2 (s : State) : Bool :=
  if s.cfg.haveEL2 && scrGoverns s then pickAArch32 s.cfg .el2 (!scrRw s) else s.pe.aa32El2

/-- Whether AArch32 is wanted at EL1: with SCR_EL3.RW = 0 and under an EL2 using AArch32 it is; under an EL2 using AArch64
HCR_EL2.RW decides, in Secure state SCR_EL3.RW (12_context R184; 60_exceptions R642; log 51). -/
def wantEl1 (s : State) : Option Bool :=
  if scrGoverns s && !scrRw s then some true
  else if s.cfg.haveEL2 && settledEl2 s then some true
  else if s.cfg.haveEL2 && (!s.cfg.haveEL3 || scrNs s) then some (!hcrRw s)
  else if scrGoverns s then some false
  else none

/-- Whether EL1 uses AArch32; where no bit decides, it stays. -/
def settledEl1 (s : State) : Bool :=
  match wantEl1 s with
  | some w => pickAArch32 s.cfg .el1 w
  | none => s.pe.aa32El1

/-- Whether EL0 uses AArch32: below an EL1 using AArch32 it does, else it stays. -/
def settledEl0 (s : State) : Bool := if settledEl1 s then pickAArch32 s.cfg .el0 true else s.pe.aa32El0

/-- The lower levels take the Execution states that SCR_EL3.RW and HCR_EL2.RW give them. -/
def settleExec (s : State) : State :=
  { s with pe := { s.pe with aa32El2 := settledEl2 s, aa32El1 := settledEl1 s, aa32El0 := settledEl0 s } }

/-- The levels use the Execution states that SCR_EL3.RW and HCR_EL2.RW give them (60_exceptions R642). -/
def rwAgrees (s : State) : Bool :=
  settledEl2 s == s.pe.aa32El2 && settledEl1 s == s.pe.aa32El1 && settledEl0 s == s.pe.aa32El0

/-- The process state can occur (60_exceptions R640 to R642; 40_aarch64 R361). -/
def legalProcess (s : State) : Bool :=
  elImplemented s.cfg (currentEL s) &&
  !(currentEL s == .el2 && s.cfg.haveEL3 && !scrNs s) &&
  !(currentEL s == .el1 && tgeReroutes s) &&
  execFits s .el0 && execFits s .el1 && execFits s .el2 && execFits s .el3 &&
  execOrdered s && rwAgrees s && modeFits s

/-- HSR is UNKNOWN in a Non-secure mode other than Hyp mode (60_exceptions R593). -/
def hsrUnknown (s : State) : State :=
  if s.cfg.haveEL2 && s.pe.aa32El2 && !isSecure s && currentEL s != .el2 then
    { s with pe := { s.pe with esr2 := (draw s 0).setWidth 32 } }
  else s

/-- With EL3 using AArch32 the PL1 modes belong to EL1 when SCR.NS = 1 and to EL3 when it is 0; in any other mode the level
stays (60_exceptions R640, R641). -/
def relevel (s : State) : State :=
  if inAArch32 s && pl1Mode s.pe.ps.mode && s.cfg.haveEL3 && s.pe.aa32El3 then
    { s with pe := { s.pe with ps := { s.pe.ps with el := if scrNs s then .el1 else .el3 } } }
  else s

/-- What a write of SCR_EL3, SCR, HCR_EL2 or HCR does beside the storage (12_context R182, R184; 60_exceptions R593, R640 to
R642; logs 50 and 51). -/
def controlChanged (s : State) : State := bump 1 (hsrUnknown (relevel (settleExec s)))

/-- Going back to a saved process state: the return instruction has been retired; the effect of an illegal return is not
in the sources. -/
def returnTo (pc : W64) (ps : Proc) (s : State) : Out :=
  let t := { s with pe := { s.pe with pc := pc, ps := ps }, env := { s.env with retired := true }, exc := none }
  if decide (ps.el.level ≤ (currentEL s).level) && legalProcess t then .next (bump 2 (hsrUnknown t))
  else .fault .illegalExceptionReturn

/-- ESR_ELx, of the level returned from, takes a value (60_exceptions R593, R621). No exception is taken to EL0. -/
def setSyndrome (el : EL) (esr : W32) (p : Pe) : Pe :=
  match el with
  | .el0 => p
  | .el1 => { p with esr1 := esr }
  | .el2 => { p with esr2 := esr }
  | .el3 => { p with esr3 := esr }

/-- A return from the current level makes its syndrome UNKNOWN (60_exceptions R593, R621). -/
def forgetSyndrome (s : State) : State :=
  { s with pe := setSyndrome (currentEL s) ((draw s 1).setWidth 32) s.pe }

/-- An exception return (60_exceptions R593, R620, R621). The saved address and process state are ELR and SPSR in AArch64,
ELR_hyp and SPSR_hyp in Hyp mode, LR_und and SPSR_und in Undefined mode. The other AArch32 modes have none in the spec: the
return goes to the address and the process state that the environment gives (DESIGN CHOICE, log 12). No exception is taken
to EL0, so there is no return from it. It is performed in Reset state and in Debug state too (DESIGN CHOICE, log 47). -/
def exceptionReturn (pc : W64) (ps : Proc) (s : State) : Out :=
  let p := s.pe
  let t := forgetSyndrome s
  match currentEL s, inAArch32 s, p.ps.mode with
  | .el0, _, _ => .refused .returnFromEl0
  | .el2, _, _ => returnTo p.elr2 p.spsr2 t
  | .el1, false, _ => returnTo p.elr1 p.spsr1 t
  | .el3, false, _ => returnTo p.elr3 p.spsr3 t
  | _, true, .undefined => returnTo (p.lrUnd.setWidth 64) p.spsrUnd t
  | _, true, _ => returnTo pc ps t

end Sys2Proof.Machine
end

