-- ==== Sys2Proof/Machine/Flags.lean ====
section
/-! DEFINITION. The condition check of an AArch32 instruction, the increment and overflow of the counters, and the two
outputs of the PMU (spec/30_encoding.md R333; spec/43_counting.md R541 to R575). -/
namespace Sys2Proof.Machine

open Sys2Proof

/-! ### Conditions (30_encoding R333; log 21) -/

/-- The condition field against the flags. The meaning of the sixteen values is PRESUMED, log 21. -/
def conditionHolds (p : Proc) (c : BitVec 4) : Bool :=
  let base :=
    match (c.extractLsb' 1 3).toNat with
    | 0 => p.flagZ
    | 1 => p.flagC
    | 2 => p.flagN
    | 3 => p.flagV
    | 4 => p.flagC && !p.flagZ
    | 5 => p.flagN == p.flagV
    | 6 => p.flagN == p.flagV && !p.flagZ
    | _ => true
  if c.getLsbD 0 && c != 15 then !base else base

/-- The condition that applies: the field of an A32 instruction, the IT state's for a T32 one (60_exceptions R605). -/
def appliedCondition (s : State) (c : BitVec 4) : BitVec 4 := if s.pe.ps.t32 then s.pe.ps.itCond else c

/-- The instruction passes its condition check. -/
def conditionPasses (s : State) (c : BitVec 4) : Bool := conditionHolds s.pe.ps (appliedCondition s c)

/-! ### Effective values of fields that an implementation may not have (11_pmu R85 to R88) -/

/-- PMCR.LC, RES1 in an AArch64-only implementation. -/
def effLc (s : State) : Bool := !anyAArch32 s.cfg || s.pmu.cr.lc
/-- PMCR.D, RES0 in an AArch64-only implementation. -/
def effD (s : State) : Bool := anyAArch32 s.cfg && s.pmu.cr.d
/-- PMCR.DP, RES0 without EL2 and EL3. -/
def effDp (s : State) : Bool := (s.cfg.haveEL3 || s.cfg.haveEL2) && s.pmu.cr.dp
/-- PMCR.X, RAZ/WI without an event bus. -/
def effX (s : State) : Bool := s.cfg.haveEventBus && s.pmu.cr.x

/-! ### Counters (43_counting R560 to R563) -/

/-- EVCNT[n] and EVTYPE[n]. -/
def evcntAt (p : Pmu) (n : Nat) : W32 := if h : n < 31 then p.evcnt[n] else 0
def evtypeAt (p : Pmu) (n : Nat) : W32 := if h : n < 31 then p.evtype[n] else 0
def setEvcnt (n : Nat) (v : W32) (p : Pmu) : Pmu := if h : n < 31 then { p with evcnt := p.evcnt.set n v } else p
def setEvtype (n : Nat) (v : W32) (p : Pmu) : Pmu := if h : n < 31 then { p with evtype := p.evtype.set n v } else p

/-- The mask with bit n alone. -/
def maskBit (n : Nat) : W32 := BitVec.twoPow 32 n

/-- Increment(n, k): modulo 2^32, and a carry sets OVS[n] (43_counting R560, R561). -/
def incrementEvent (n k : Nat) (p : Pmu) : Pmu :=
  let sum := (evcntAt p n).toNat + k
  let q := setEvcnt n (BitVec.ofNat 32 sum) p
  if 2 ^ 32 ≤ sum then { q with ovs := q.ovs ||| maskBit n } else q

/-- IncrementC() with the value of LC: the overflow bit is bit 31 or bit 63 (43_counting R563). -/
def incrementCycle (lc : Bool) (p : Pmu) : Pmu :=
  let b := if lc then 63 else 31
  let v := p.ccnt + 1
  let q := { p with ccnt := v }
  if p.ccnt.getLsbD b && !v.getLsbD b then { q with ovs := q.ovs ||| maskBit 31 } else q

/-- Does something to the counters below a limit, in rising order. -/
def forCounters (limit : Nat) (f : Nat → Pmu → Pmu) (p : Pmu) : Pmu :=
  (List.range limit).foldl (fun q n => f n q) p

/-! ### Masks of the implementation -/

/-- The bits below n. -/
def lowMask (n : Nat) : W32 := BitVec.ofNat 32 (2 ^ n - 1)

/-- ImplMask = ExtMask: the cycle counter and the N event counters (43_counting R570; 42_external R490). -/
def implMask (c : Config) : W32 := 0x80000000 ||| lowMask c.n.val

/-! ### The outputs -/

/-- PMUIRQ, a level (43_counting R570; 92 D28). It has no effect on the PE. -/
def pmuIrq (s : State) : Bool := (s.pmu.ovs &&& s.pmu.inten &&& implMask s.cfg) != 0

end Sys2Proof.Machine
end

