-- ==== Sys2Proof/Machine/Operands.lean ====
section
/-! DEFINITION. What an access sees: the accessible counters and the masks of a view (spec/11_pmu_register_fields.md R95,
R123; spec/12_context_registers.md R162), and the syndrome an access reports when it is trapped
(spec/60_exceptions.md R604 to R607). -/
namespace Sys2Proof.Machine

open Sys2Proof

/-! ### Accessible counters -/

/-- MDCR_EL2.HPMN as stored. -/
def hpmn (s : State) : Nat := (s.ctl.mdcr2.extractLsb' 0 5).toNat

/-- The stored HPMN is legal: 1 to N, or 0 when N = 0 (12_context R162). -/
def hpmnLegal (s : State) : Bool :=
  (decide (1 ≤ hpmn s) && decide (hpmn s ≤ s.cfg.n.val)) || (hpmn s == 0 && s.cfg.n.val == 0)

/-- EffHPMN(): an illegal value reserves all counters for EL2 (12_context R162; 92 D3; log 17). -/
def effHpmn (s : State) : Nat := if hpmnLegal s then hpmn s else 0

/-- Non-secure EL0 and EL1 with EL2 implemented, where HPMN is the limit (11_pmu R95). -/
def guestView (s : State) : Bool :=
  s.cfg.haveEL2 && !isSecure s && (currentEL s == .el0 || currentEL s == .el1)

/-- AccessibleN() of a System register access (11_pmu R95). -/
def accessibleN (s : State) : Nat := if guestView s then effHpmn s else s.cfg.n.val

/-- VisibleMask() of the SET and CLR registers (11_pmu R95). -/
def visibleMask (s : State) : W32 := 0x80000000 ||| lowMask (accessibleN s)

/-- A direct read of HPMN: UNKNOWN_5 when the stored value is illegal (12_context R162). -/
def hpmnRead (s : State) : BitVec 5 :=
  if hpmnLegal s then s.ctl.mdcr2.extractLsb' 0 5 else (draw s 0).setWidth 5

/-- PMSELR.SEL as a number. -/
def selected (s : State) : Nat := s.pmu.sel.toNat

/-! ### The bits a filter and a type register keep -/

/-- P and U; NSK, NSU and M with EL3; NSH with EL2 (11_pmu R115 to R121). -/
def filterMask (c : Config) : W32 :=
  0xC0000000 ||| (if c.haveEL3 then 0x34000000 else 0) ||| (if c.haveEL2 then 0x08000000 else 0)

/-- TypeMask: the filter bits, MT on a multithreaded implementation, evtCount (11_pmu R123, R128, R129). -/
def typeMask (c : Config) : W32 :=
  filterMask c ||| (if c.isMultithreaded then 0x02000000 else 0) ||| 0x0000FFFF

/-- Bit 26, M, which the AArch32 view does not show (11_pmu R121; 92 D11; log 25). -/
def mBit : W32 := 0x04000000

/-! ### Events -/

/-- EventSupported(e) (00_scope R9). -/
def eventSupported (c : Config) (e : Nat) : Bool := c.events.contains (BitVec.ofNat 16 e)

/-- An unsupported event number of which the implementation leaves open what it counts and how it reads back. The numbers
0 to 0x3F count nothing and read back as written in every implementation (11_pmu R130; 92 D13; 93 U9, U10; log 26). -/
def eventOpen (c : Config) (e : BitVec 16) : Bool :=
  c.openEvents.contains e && !c.events.contains e && decide (0x40 ≤ e.toNat)

/-- evtCount of a type register (11_pmu R129). -/
def evtCount (v : W32) : BitVec 16 := v.extractLsb' 0 16

/-! ### Syndromes -/

/-- ec:il:iss with IL = 1 (60_exceptions R593). -/
def syndrome (ec : BitVec 6) (iss : BitVec 25) : W32 := ec ++ 1#1 ++ iss

/-- The ISS of a trapped MRS or MSR (60_exceptions R604). -/
def iss64 (k : Sel64) (wr : Bool) (t : BitVec 5) : BitVec 25 :=
  0#3 ++ k.op0 ++ k.op2 ++ k.op1 ++ k.crn ++ t ++ k.crm ++ BitVec.ofBool (!wr)

/-- EC 0b011000 (60_exceptions R592). -/
def syndrome64 (k : Sel64) (wr : Bool) (t : BitVec 5) : W32 := syndrome 0b011000 (iss64 k wr t)

/-- CV and COND (60_exceptions R605): with T32_CV = 0 a T32 instruction reports CV = 0 and COND UNKNOWN. -/
def condFields (s : State) (c : BitVec 4) : BitVec 1 × BitVec 4 :=
  if s.pe.ps.t32 && !s.cfg.t32CV then (0, (draw s 3).setWidth 4)
  else (1, if s.cfg.condPresentation == .alwaysAL then 14 else appliedCondition s c)

/-- A code of an AArch32 mode, CPSR.M[3:0] (60_exceptions R640). -/
def modeCode : Mode → BitVec 4
  | .user => 0
  | .fiq => 1
  | .irq => 2
  | .supervisor => 3
  | .monitor => 6
  | .abort => 7
  | .hyp => 10
  | .undefined => 11
  | .system => 15

/-- The AArch64 view of an AArch32 register: R0 to R12 are 0 to 12; R13 and R14 by mode are left to the PE
(60_exceptions R605; log 22). -/
def view64 (s : State) (t : BitVec 4) : BitVec 5 :=
  if t.toNat ≤ 12 then t.setWidth 5 else Config.aarch64View (modeCode s.pe.ps.mode) t

/-- An AArch32 access as its syndrome names it: a 32-bit access with its selector, or the 64-bit access of PMCCNTR. -/
inductive Access32 where
  | single (k : Sel32) (wr : Bool) (c t : BitVec 4)
  | wide (wr : Bool) (c t t2 : BitVec 4)
  deriving DecidableEq, Repr

/-- The syndrome in ESR_ELx: EC 0b000011 or 0b000100 (60_exceptions R605, R606). -/
def esr32 (s : State) : Access32 → W32
  | .single k wr c t =>
    syndrome 0b000011 ((condFields s c).1 ++ (condFields s c).2 ++ k.opc2 ++ k.opc1 ++ k.crn ++ view64 s t ++ k.crm
      ++ BitVec.ofBool (!wr))
  | .wide wr c t t2 =>
    syndrome 0b000100 ((condFields s c).1 ++ (condFields s c).2 ++ 0#4 ++ 0#1 ++ view64 s t2 ++ view64 s t ++ 9#4
      ++ BitVec.ofBool (!wr))

/-- The syndrome in HSR: 4-bit register fields, no AArch64 view (60_exceptions R607). -/
def hsr32 (s : State) : Access32 → W32
  | .single k wr c t =>
    syndrome 0b000011 ((condFields s c).1 ++ (condFields s c).2 ++ k.opc2 ++ k.opc1 ++ k.crn ++ 0#1 ++ t ++ k.crm
      ++ BitVec.ofBool (!wr))
  | .wide wr c t t2 =>
    syndrome 0b000100 ((condFields s c).1 ++ (condFields s c).2 ++ 0#4 ++ 0#2 ++ t2 ++ 0#1 ++ t ++ 9#4
      ++ BitVec.ofBool (!wr))

end Sys2Proof.Machine
end

