-- ==== Sys2Proof/Machine/Counting.lean ====
section
/-! DEFINITION. The counting hardware (spec/43_counting.md): enable, prohibition, filter, the event step, the cycle step,
the software increment and the event export. -/
namespace Sys2Proof.Machine

open Sys2Proof

/-! ### The context of a step (43_counting R540) -/

/-- The Exception level of a context. -/
def Ctx.el : Ctx → EL
  | .secureEl0 => .el0
  | .secureEl1 => .el1
  | .nonSecureEl0 => .el0
  | .nonSecureEl1 => .el1
  | .nonSecureEl2 => .el2
  | .secureEl3 => .el3

/-- The Security state of a context. -/
def Ctx.secure : Ctx → Bool
  | .secureEl0 => true
  | .secureEl1 => true
  | .nonSecureEl0 => false
  | .nonSecureEl1 => false
  | .nonSecureEl2 => false
  | .secureEl3 => true

/-! ### Enable (43_counting R541) -/

/-- MDCR_EL2.HPME (12_context R166). -/
def hpme (s : State) : Bool := s.ctl.mdcr2.getLsbD 7

/-- Enabled(n). -/
def enabled (s : State) (n : Nat) : Bool :=
  s.pmu.cnten.getLsbD n && (if s.cfg.haveEL2 && decide (effHpmn s ≤ n) then hpme s else s.pmu.cr.e)

/-- EnabledC(). -/
def enabledC (s : State) : Bool := s.pmu.cnten.getLsbD 31 && s.pmu.cr.e

/-! ### Prohibition (43_counting R548) -/

/-- SPME, the stored bit of MDCR_EL3 and SDCR (12_context R171). -/
def spme (s : State) : Bool := s.ctl.mdcr3.getLsbD 17
/-- SDER.SUNIDEN (12_context R175). -/
def suniden (s : State) : Bool := s.ctl.sder.getLsbD 1
/-- MDCR_EL2.HPMD (12_context R163). -/
def hpmd (s : State) : Bool := s.ctl.mdcr2.getLsbD 17

/-- SUNIDEN_applies: Secure EL1 is using AArch32 (92 D15; log 28). What that means for a Secure EL0 context while this PE is
Non-secure is not in the spec: the Execution state that EL1 uses now is taken (DESIGN CHOICE, log 28). -/
def sunidenApplies (s : State) : Bool := s.pe.aa32El1

/-- SecureProhibited(ctx). -/
def secureProhibited (s : State) (c : Ctx) : Bool :=
  c.secure && s.cfg.haveEL3 && !spme s && !(c.el == .el0 && sunidenApplies s && suniden s)

/-- EL2Prohibited(ctx). -/
def el2Prohibited (s : State) (c : Ctx) : Bool := s.cfg.haveEL2 && c.el == .el2 && hpmd s

/-- ProhibitedFor(n, ctx). -/
def prohibitedFor (s : State) (n : Nat) (c : Ctx) : Bool :=
  secureProhibited s c || (el2Prohibited s c && decide (n < effHpmn s))

/-- ProhibitedForC(ctx). -/
def prohibitedForC (s : State) (c : Ctx) : Bool := effDp s && (secureProhibited s c || el2Prohibited s c)

/-! ### Filter (11_pmu R133; 43_counting R551) -/

/-- FilterPass(f, el, secure). -/
def filterPass (cfg : Config) (f : W32) : Ctx → Bool
  | .secureEl0 => !f.getLsbD 30
  | .secureEl1 => !f.getLsbD 31
  | .nonSecureEl0 => if cfg.haveEL3 then f.getLsbD 28 == f.getLsbD 30 else !f.getLsbD 30
  | .nonSecureEl1 => if cfg.haveEL3 then f.getLsbD 29 == f.getLsbD 31 else !f.getLsbD 31
  | .nonSecureEl2 => f.getLsbD 27
  | .secureEl3 => f.getLsbD 26 == f.getLsbD 31

/-! ### The event step (43_counting R552 to R555) -/

/-- The thread match: a sibling's occurrence counts only with MT = 1 (43_counting R552). -/
def sourceMatches (cfg : Config) (f : W32) : Source → Bool
  | .own => true
  | .sibling => cfg.isMultithreaded && f.getLsbD 25

/-- The event match (43_counting R553, R555): an unsupported number counts nothing, or, where the implementation leaves
it open, a free bit decides (log 26). -/
def eventMatches (s : State) (e : BitVec 16) (n : Nat) (f : W32) : Bool :=
  if eventOpen s.cfg (evtCount f) then (draw s 0).getLsbD n
  else e == evtCount f && s.cfg.events.contains e

/-- Everything a counter must meet to count an occurrence (43_counting R554). -/
def countsEvent (s : State) (e : BitVec 16) (c : Ctx) (src : Source) (n : Nat) : Bool :=
  enabled s n && !prohibitedFor s n c && eventMatches s e n (evtypeAt s.pmu n) &&
    sourceMatches s.cfg (evtypeAt s.pmu n) src && filterPass s.cfg (evtypeAt s.pmu n) c

/-- EventStep(e, ctx, src, k) (43_counting R554). -/
def eventStep (e : BitVec 16) (c : Ctx) (src : Source) (k : Nat) (s : State) : State :=
  bump 1 { s with
    pmu := forCounters s.cfg.n.val (fun n p => if countsEvent s e c src n then incrementEvent n k p else p) s.pmu }

/-! ### The cycle step (43_counting R562) -/

/-- The cycle counter takes the cycle: enabled, not prohibited, filter passed. -/
def countsCycle (s : State) (c : Ctx) : Bool :=
  enabledC s && !prohibitedForC s c && filterPass s.cfg s.pmu.ccfilt c

/-- CycleStep(ctx). -/
def cycleStep (c : Ctx) (s : State) : State :=
  if countsCycle s c then
    if effLc s || !effD s then { s with pmu := incrementCycle (effLc s) s.pmu }
    else
      let d := s.pmu.div64 + 1
      let p := { s.pmu with div64 := d }
      { s with pmu := if d == 0 then incrementCycle (effLc s) p else p }
  else s

/-! ### The software increment (43_counting R556, R557) -/

/-- Counter n is incremented by bit n of v: the counter is enabled and counts SW_INCR, event 0x0000. -/
def softwareIncrements (s : State) (v : W32) (n : Nat) : Bool :=
  v.getLsbD n && enabled s n && evtCount (evtypeAt s.pmu n) == 0 && s.cfg.events.contains 0

/-- SoftwareIncrement(v, limit). -/
def softwareIncrement (v : W32) (limit : Nat) (s : State) : State :=
  { s with
    pmu := forCounters limit (fun n p => if softwareIncrements s v n then incrementEvent n 1 p else p) s.pmu }

/-! ### Event export (43_counting R575) -/

/-- Exporting(ctx). -/
def exporting (s : State) (c : Ctx) : Bool :=
  effX s && !(secureProhibited s c || el2Prohibited s c)

end Sys2Proof.Machine
end

