-- ==== Sys2Proof/Machine/Registers.lean ====
section
/-! DEFINITION. What a read of each shared PMU register returns and what a write does, said once for the three views
(spec/11_pmu_register_fields.md; spec/40_aarch64_access.md R369 to R391; spec/10_state.md R21). -/
namespace Sys2Proof.Machine

open Sys2Proof

/-! ### PMCR (11_pmu R80 to R92) -/

/-- Bits [6:0]: LC, DP, X, D; C and P read as 0; E (40_aarch64 R369; 42_external R506). -/
def crBits (s : State) : BitVec 7 :=
  BitVec.ofBool (effLc s) ++ BitVec.ofBool (effDp s) ++ BitVec.ofBool (effX s) ++ BitVec.ofBool (effD s) ++ 0#2 ++
    BitVec.ofBool s.pmu.cr.e

/-- N_read (11_pmu R83): HPMN from Non-secure EL1 and EL0 with EL2, else N. -/
def nRead (s : State) : BitVec 5 := if guestView s then hpmnRead s else BitVec.ofNat 5 s.cfg.n.val

/-- Read_PMCR_EL0() (40_aarch64 R369). -/
def pmcrValue (s : State) : W32 := s.cfg.imp ++ s.cfg.idcode ++ nRead s ++ 0#4 ++ crBits s

/-- The writable bits of PMCR after a write of v (40_aarch64 R370); bits the implementation does not have stay. -/
def crWritten (cfg : Config) (v : W32) (c : Cr) : Cr where
  lc := if anyAArch32 cfg then v.getLsbD 6 else c.lc
  dp := if cfg.haveEL3 || cfg.haveEL2 then v.getLsbD 5 else c.dp
  x := if cfg.haveEventBus then v.getLsbD 4 else c.x
  d := if anyAArch32 cfg then v.getLsbD 3 else c.d
  e := v.getLsbD 0

/-- PMCR.C: the cycle counter and the prescaler phase are cleared (11_pmu R89; 92 D9; log 23). -/
def clearCycle (p : Pmu) : Pmu := { p with ccnt := 0, div64 := 0 }

/-- Write_PMCR_EL0(v); the limit is AccessibleN(), or N for the external view (40_aarch64 R370; 42_external R506). -/
def writePmcr (v : W32) (limit : Nat) (s : State) : State :=
  let p := { s.pmu with cr := crWritten s.cfg v s.pmu.cr }
  let p := if v.getLsbD 2 then clearCycle p else p
  { s with pmu := if v.getLsbD 1 then forCounters limit (fun n => setEvcnt n 0) p else p }

/-! ### The three masks (11_pmu R93 to R101) -/

/-- CNTEN, INTEN and OVS: bits written as 1 are set or cleared. -/
def setCnten (v : W32) (s : State) : State := { s with pmu := { s.pmu with cnten := s.pmu.cnten ||| v } }
def clearCnten (v : W32) (s : State) : State := { s with pmu := { s.pmu with cnten := s.pmu.cnten &&& ~~~v } }
def setInten (v : W32) (s : State) : State := { s with pmu := { s.pmu with inten := s.pmu.inten ||| v } }
def clearInten (v : W32) (s : State) : State := { s with pmu := { s.pmu with inten := s.pmu.inten &&& ~~~v } }
def setOvs (v : W32) (s : State) : State := { s with pmu := { s.pmu with ovs := s.pmu.ovs ||| v } }
def clearOvs (v : W32) (s : State) : State := { s with pmu := { s.pmu with ovs := s.pmu.ovs &&& ~~~v } }

/-! ### PMSELR and PMUSERENR (11_pmu R103 to R112) -/

/-- A direct read of SEL: UNKNOWN_5 when it names no counter and is not 31 (40_aarch64 R378; 92 D10; log 24). -/
def selValue (s : State) : BitVec 5 :=
  if decide (s.cfg.n.val ≤ selected s) && selected s != 31 then (draw s 0).setWidth 5 else s.pmu.sel

/-- Writes SEL: v[4:0]. -/
def writeSel (v : W32) (s : State) : State := { s with pmu := { s.pmu with sel := v.setWidth 5 } }

/-- PMUSERENR: ER, CR, SW, EN (40_aarch64 R391). -/
def userenValue (s : State) : W32 :=
  0#28 ++ BitVec.ofBool s.pmu.useren.er ++ BitVec.ofBool s.pmu.useren.cr ++ BitVec.ofBool s.pmu.useren.sw ++
    BitVec.ofBool s.pmu.useren.en

/-- Writes PMUSERENR: v[3:0]. -/
def writeUseren (v : W32) (s : State) : State :=
  { s with pmu := { s.pmu with
      useren := { er := v.getLsbD 3, cr := v.getLsbD 2, sw := v.getLsbD 1, en := v.getLsbD 0 } } }

/-! ### Event identification (11_pmu R124 to R127) -/

/-- Bit i: the event base + i is implemented. -/
def eventMask (c : Config) (base : Nat) : W32 :=
  (List.range 32).foldl (fun m i => if eventSupported c (base + i) then m ||| maskBit i else m) 0

/-- The constants CEID0 and CEID1 (40_aarch64 R379). -/
def ceid0 (c : Config) : W64 := eventMask c 0x4000 ++ eventMask c 0
def ceid1 (c : Config) : W64 := eventMask c 0x4020 ++ eventMask c 0x20

/-! ### The cycle counter and its filter (11_pmu R113 to R121) -/

/-- Writes CCNT, or one of its halves (40_aarch64 R385; 41_aarch32 R437; 42_external R493). -/
def writeCcnt (v : W64) (s : State) : State := { s with pmu := { s.pmu with ccnt := v } }
def writeCcntLo (v : W32) (s : State) : State :=
  { s with pmu := { s.pmu with ccnt := s.pmu.ccnt.extractLsb' 32 32 ++ v } }
def writeCcntHi (v : W32) (s : State) : State :=
  { s with pmu := { s.pmu with ccnt := v ++ s.pmu.ccnt.setWidth 32 } }

/-- Writes CCFILT (40_aarch64 R386). -/
def writeCcfilt (v : W32) (s : State) : State :=
  { s with pmu := { s.pmu with ccfilt := v &&& filterMask s.cfg } }

/-- Writes CCFILT through the AArch32 view: M stays (41_aarch32 R445). -/
def writeCcfilt32 (v : W32) (s : State) : State :=
  { s with pmu := { s.pmu with
      ccfilt := (v &&& filterMask s.cfg &&& ~~~mBit) ||| (s.pmu.ccfilt &&& mBit) } }

/-! ### The event counters and their types (11_pmu R122, R123, R130) -/

/-- Writes EVCNT[n] (40_aarch64 R387). -/
def writeEvcnt (n : Nat) (v : W32) (s : State) : State := { s with pmu := setEvcnt n v s.pmu }

/-- A read of EVTYPE[n]: as written, but for an event number whose read-back is UNKNOWN (11_pmu R130; log 26). -/
def evtypeValue (s : State) (n : Nat) : W32 :=
  let v := evtypeAt s.pmu n
  if eventOpen s.cfg (evtCount v) then v.extractLsb' 16 16 ++ (draw s 0).setWidth 16 else v

/-- Writes EVTYPE[n] (40_aarch64 R388). -/
def writeEvtype (n : Nat) (v : W32) (s : State) : State :=
  { s with pmu := setEvtype n (v &&& typeMask s.cfg) s.pmu }

/-- Writes EVTYPE[n] through the AArch32 view: M stays (41_aarch32 R447). -/
def writeEvtype32 (n : Nat) (v : W32) (s : State) : State :=
  { s with pmu :=
      setEvtype n ((v &&& typeMask s.cfg &&& ~~~mBit) ||| (evtypeAt s.pmu n &&& mBit)) s.pmu }

/-- The type register an indirect access reaches: 31 is CCFILT (11_pmu R132). -/
def xtypeValue (s : State) (n : Nat) : W32 := if n = 31 then s.pmu.ccfilt else evtypeValue s n
def writeXtype (n : Nat) (v : W32) (s : State) : State := if n = 31 then writeCcfilt v s else writeEvtype n v s
def writeXtype32 (n : Nat) (v : W32) (s : State) : State :=
  if n = 31 then writeCcfilt32 v s else writeEvtype32 n v s

/-! ### Counters out of range (40_aarch64 R380 to R383; 41_aarch32 R460 to R463; log 16) -/

/-- How a register names a counter. -/
inductive CounterUse where
  /-- It names none. -/
  | none
  /-- The instruction names it. -/
  | direct (n : Nat)
  /-- PMXEVCNTR: SEL names an event counter. -/
  | selectedCount
  /-- PMXEVTYPER: SEL names a type register, 31 being PMCCFILTR. -/
  | selectedType
  deriving DecidableEq, Repr

/-- What the counter check lets an access do. -/
inductive Reach where
  /-- The access is performed, on this counter. -/
  | run (n : Nat)
  /-- The exception of R383 for this index. -/
  | denied (n : Nat)
  /-- RAZ/WI. -/
  | zero
  /-- NOP. -/
  | skip
  deriving DecidableEq, Repr

/-- The counter index an access names. -/
def counterIndex (s : State) : CounterUse → Nat
  | .none => 0
  | .direct n => n
  | .selectedCount => selected s
  | .selectedType => selected s

/-- CounterOutOfRange (40_aarch64 R382; 41_aarch32 R462). -/
def counterOutOfRange (s : State) : CounterUse → Bool
  | .none => false
  | .direct n => decide (accessibleN s ≤ n)
  | .selectedCount => decide (accessibleN s ≤ selected s)
  | .selectedType => decide (accessibleN s ≤ selected s) && selected s != 31

/-- An UNKNOWN counter number below the accessible count (40_aarch64 R381). -/
def unknownCounter (s : State) : Nat := (draw s 1).toNat % accessibleN s

/-- The member of the CONSTRAINED UNPREDICTABLE list that `CU_COUNTER_ACCESS` selects, where the access's list has it;
otherwise the spec's own choice, R383 (40_aarch64 R380, R381, R383; 93 U3). -/
def outOfRangeReach (s : State) (u : CounterUse) : Reach :=
  match s.cfg.cuCounterAccess, u with
  | .razWi, _ => .zero
  | .nop, _ => .skip
  | .selUnknown, .selectedCount => if accessibleN s = 0 then .denied (selected s) else .run (unknownCounter s)
  | .selUnknown, .selectedType => if accessibleN s = 0 then .denied (selected s) else .run (unknownCounter s)
  | .sel31, .selectedCount => .denied 31
  | .sel31, .selectedType => .run 31
  | _, u => .denied (counterIndex s u)

/-- Step 5 of the access procedures. -/
def counterReach (s : State) (u : CounterUse) : Reach :=
  if counterOutOfRange s u then outOfRangeReach s u else .run (counterIndex s u)

/-- The trap member of R383 is offered: a Non-secure access from EL1, or from EL0 with EN = 1, to a counter that exists
but is reserved for EL2. -/
def counterTraps (s : State) (n : Nat) : Bool :=
  s.cfg.haveEL2 && !isSecure s &&
    (currentEL s == .el1 || (currentEL s == .el0 && s.pmu.useren.en)) &&
    decide (accessibleN s ≤ n) && decide (n < s.cfg.n.val)

/-! ### The EL0 traps (40_aarch64 R362; 41_aarch32 R422) -/

/-- The rows of the table of EL0 traps. -/
inductive El0Class where
  /-- EN = 0 traps reads and writes. -/
  | enable
  /-- EN = 0 and ER = 0 trap reads and writes: PMSELR. -/
  | selector
  /-- EN = 0 and ER = 0 trap reads, EN = 0 traps writes: the event counters. -/
  | eventCount
  /-- EN = 0 and CR = 0 trap reads, EN = 0 traps writes: PMCCNTR. -/
  | cycleCount
  /-- EN = 0 and SW = 0 trap writes: PMSWINC. -/
  | softInc
  /-- Never trapped: PMUSERENR, and the registers that are UNDEFINED at EL0. -/
  | never
  deriving DecidableEq, Repr

/-- The access from EL0 is trapped by PMUSERENR. -/
def el0Traps (u : UserEn) (wr : Bool) : El0Class → Bool
  | .enable => !u.en
  | .selector => !u.en && !u.er
  | .eventCount => if wr then !u.en else !u.en && !u.er
  | .cycleCount => if wr then !u.en else !u.en && !u.cr
  | .softInc => !u.en && !u.sw
  | .never => false

/-- MDCR_EL2.TPM, MDCR_EL2.TPMCR (12_context R164, R165) and MDCR_EL3.TPM (R170). -/
def tpm2 (s : State) : Bool := s.ctl.mdcr2.getLsbD 6
def tpmcr2 (s : State) : Bool := s.ctl.mdcr2.getLsbD 5
def tpm3 (s : State) : Bool := s.ctl.mdcr3.getLsbD 6

/-- EL2 may trap: Non-secure EL0 and EL1 with EL2 implemented (40_aarch64 R360 step 3). -/
def el2MayTrap (s : State) : Bool := guestView s

/-- Step 4: EL3 is implemented and uses AArch64, the access is from below EL3, and MDCR_EL3.TPM = 1 (40_aarch64 R366;
41_aarch32 R428). -/
def el3Traps (s : State) : Bool :=
  s.cfg.haveEL3 && !s.pe.aa32El3 && currentEL s != .el3 && tpm3 s

end Sys2Proof.Machine
end

