-- ==== Sys2Proof/Machine/Access32.lean ====
section
/-! DEFINITION. The access procedure of MRC, MCR, MRRC and MCRR (spec/41_aarch32_access.md R420 to R429, R460 to
R463). -/
namespace Sys2Proof.Machine

open Sys2Proof

/-- Allocated32(reg, wr, el) (41_aarch32 R421; 90 C3, C4, C11). -/
def allocated32 (r : A32Reg) (wr : Bool) (el : EL) : Bool :=
  match r with
  | .pmintenset => el != .el0
  | .pmintenclr => el != .el0
  | .pmceid0 => !wr
  | .pmceid1 => !wr
  | .pmceid2 => !wr
  | .pmceid3 => !wr
  | .pmswinc => wr
  | .pmuserenr => !wr || el != .el0
  | .pmevcntr n => wfCounter n
  | .pmevtyper n => wfCounter n
  | _ => true

/-- The row of a register in the table of EL0 traps (41_aarch32 R422). -/
def el0Class32 : A32Reg → El0Class
  | .pmselr => .selector
  | .pmevcntr _ => .eventCount
  | .pmxevcntr => .eventCount
  | .pmccntr => .cycleCount
  | .pmswinc => .softInc
  | .pmuserenr => .never
  | .pmintenset => .never
  | .pmintenclr => .never
  | _ => .enable

/-- How a register names a counter (41_aarch32 R462). -/
def counterUse32 : A32Reg → CounterUse
  | .pmevcntr n => .direct n.toNat
  | .pmevtyper n => .direct n.toNat
  | .pmxevcntr => .selectedCount
  | .pmxevtyper => .selectedType
  | _ => .none

/-- HSTR_EL2.T<n> = HSTR.T<n>, which acts as 0 when EL2 uses AArch64 with E2H = TGE = 1 (12_context R180; 41_aarch32 R426;
90 C13). -/
def hstrEff (n : Nat) (s : State) : Bool := s.ctl.hstr.getLsbD n && !(!s.pe.aa32El2 && hcrE2h s && hcrTge s)

/-- T9eff (41_aarch32 R426). -/
def t9Eff (s : State) : Bool := hstrEff 9 s

/-- UsesC9(reg, wide): CRn = c9, which the 64-bit access of PMCCNTR (CRm = c9) shares (41_aarch32 R426). -/
def usesC9 (r : A32Reg) : Bool := r.sel.crn == 9

/-- EL0TrapTaken (41_aarch32 R423; 60_exceptions R597, R598). -/
def el0TrapExc32 (a : Access32) (s : State) : Exc :=
  if tgeReroutes s then (if s.pe.aa32El2 then .toHyp undefSyndrome else .toAArch64 .el2 (esr32 s a))
  else if s.pe.aa32El1 then .toUndefined
  else .toAArch64 .el1 (esr32 s a)

/-- TrapTo(EL2) from an AArch32 access (41_aarch32 R427; 60_exceptions R599). -/
def el2TrapExc32 (a : Access32) (s : State) : Exc :=
  if s.pe.aa32El2 then .toHyp (hsr32 s a) else .toAArch64 .el2 (esr32 s a)

/-- Steps 1 to 4 of R420: the exception that ends the access, if any (order: 92 D7; log 13). -/
def trapCheck32 (r : A32Reg) (wr : Bool) (a : Access32) (s : State) : Option Exc :=
  if !allocated32 r wr (currentEL s) then some (undefinedExc s)
  else if currentEL s == .el0 && el0Traps s.pmu.useren wr (el0Class32 r) then some (el0TrapExc32 a s)
  else if el2MayTrap s && (tpm2 s || (r == .pmcr && tpmcr2 s) || (t9Eff s && usesC9 r)) then
    some (el2TrapExc32 a s)
  else if el3Traps s then some (.toAArch64 .el3 (esr32 s a))
  else none

/-- The exception of R463. -/
def deniedExc32 (a : Access32) (n : Nat) (s : State) : Exc :=
  if counterTraps s n then el2TrapExc32 a s else undefinedExc s

/-- A32_PMU_Access(reg, wr, wide, t, t2); `zero` is the RAZ/WI behaviour, `body` performs the access on the counter
number step 5 gives. -/
def access32 (r : A32Reg) (wr : Bool) (a : Access32) (zero : State → State) (body : Nat → State → State)
    (s : State) : State :=
  match trapCheck32 r wr a s with
  | some x => takeException x s
  | none =>
    match counterReach s (counterUse32 r) with
    | .run n => body n s
    | .denied n => takeException (deniedExc32 a n s) s
    | .zero => retire (zero s)
    | .skip => retire s

/-- A failed condition leaves only the pc's advance (60_exceptions R605; 92 D29; log 21); register numbers the spec
refuses are refused (30_encoding R334; 92 D4; log 20). -/
def conditional32 (c : BitVec 4) (regsOk : Bool) (run : State → State) (s : State) : Out :=
  if conditionPasses s c then (if regsOk then .next (run s) else .refused .unpredictableRegister)
  else .next (retire s)

/-- MRC of a register. -/
def mrc32 (r : A32Reg) (c t : BitVec 4) (body : Nat → State → State) (s : State) : Out :=
  conditional32 c (wfReg32 t) (access32 r false (.single r.sel false c t) (writeR t 0) body) s

/-- MCR of a register. -/
def mcr32 (r : A32Reg) (c t : BitVec 4) (body : Nat → State → State) (s : State) : Out :=
  conditional32 c (wfReg32 t) (access32 r true (.single r.sel true c t) id body) s

/-- The end of an MRC. -/
def finishMrc (t : BitVec 4) (v : W32) (k : Nat) (s : State) : State := retire (bump k (writeR t v s))

end Sys2Proof.Machine
end

