-- ==== Sys2Proof/Machine/Access64.lean ====
section
/-! DEFINITION. The access procedure of MRS and MSR (spec/40_aarch64_access.md R360 to R368, R380 to R383). -/
namespace Sys2Proof.Machine

open Sys2Proof

/-- Allocated(reg, wr, el) (40_aarch64 R361; 90 C3, C4). -/
def allocated64 (r : A64Reg) (wr : Bool) (el : EL) : Bool :=
  match r with
  | .pmintenset => el != .el0
  | .pmintenclr => el != .el0
  | .pmceid0 => !wr
  | .pmceid1 => !wr
  | .pmswinc => wr
  | .pmuserenr => !wr || el != .el0
  | .pmevcntr n => wfCounter n
  | .pmevtyper n => wfCounter n
  | _ => true

/-- The row of a register in the table of EL0 traps (40_aarch64 R362). -/
def el0Class64 : A64Reg → El0Class
  | .pmselr => .selector
  | .pmevcntr _ => .eventCount
  | .pmxevcntr => .eventCount
  | .pmccntr => .cycleCount
  | .pmswinc => .softInc
  | .pmuserenr => .never
  | .pmintenset => .never
  | .pmintenclr => .never
  | _ => .enable

/-- How a register names a counter (40_aarch64 R382). -/
def counterUse64 : A64Reg → CounterUse
  | .pmevcntr n => .direct n.toNat
  | .pmevtyper n => .direct n.toNat
  | .pmxevcntr => .selectedCount
  | .pmxevtyper => .selectedType
  | _ => .none

/-- Steps 1 to 4 of R360: the exception that ends the access, if any (order: 92 D7; log 13). -/
def trapCheck64 (r : A64Reg) (wr : Bool) (t : BitVec 5) (s : State) : Option Exc :=
  if !allocated64 r wr (currentEL s) then some (undefinedExc s)
  else if currentEL s == .el0 && el0Traps s.pmu.useren wr (el0Class64 r) then
    some (.toAArch64 (if tgeReroutes s then .el2 else .el1) (syndrome64 r.sel wr t))
  else if el2MayTrap s && (tpm2 s || (r == .pmcr && tpmcr2 s)) then some (.toAArch64 .el2 (syndrome64 r.sel wr t))
  else if el3Traps s then some (.toAArch64 .el3 (syndrome64 r.sel wr t))
  else none

/-- The exception of R383. -/
def deniedExc64 (r : A64Reg) (wr : Bool) (t : BitVec 5) (n : Nat) (s : State) : Exc :=
  if counterTraps s n then .toAArch64 .el2 (syndrome64 r.sel wr t) else undefinedExc s

/-- A_64_PMU_Access(reg, wr, t); `body` performs the access on the counter number step 5 gives. -/
def access64 (r : A64Reg) (wr : Bool) (t : BitVec 5) (body : Nat → State → State) (s : State) : State :=
  match trapCheck64 r wr t s with
  | some x => takeException x s
  | none =>
    match counterReach s (counterUse64 r) with
    | .run n => body n s
    | .denied n => takeException (deniedExc64 r wr t n s) s
    | .zero => retire (if wr then s else writeX t 0 s)
    | .skip => retire s

/-- The end of an MRS: the value goes to X[t], k free values are used up, the pc advances. -/
def finishMrs (t : BitVec 5) (v : W64) (k : Nat) (s : State) : State := retire (bump k (writeX t v s))

/-- The end of an MRS of a 32-bit register: zero-extended (30_encoding R323). -/
def finishMrs32 (t : BitVec 5) (v : W32) (k : Nat) (s : State) : State := finishMrs t (v.setWidth 64) k s

/-- The operand of an MSR of a 32-bit register: X[t][31:0] (30_encoding R323). -/
def operand64 (t : BitVec 5) (s : State) : W32 := (readX s t).setWidth 32

end Sys2Proof.Machine
end

