-- ==== Sys2Proof/Machine/ExtAccess.lean ====
section
/-! DEFINITION. The access procedure of the external view (spec/42_external_access.md R480 to R491), the PC-sample latch
and the identification values (spec/13_external_management_registers.md). -/
namespace Sys2Proof.Machine

open Sys2Proof

/-! ### The gates (42_external R481 to R486) -/

/-- DoubleLockStatus() (12_context R194). -/
def doubleLock (s : State) : Bool := s.ctl.dlk && !s.ctl.corenpdrq && !s.env.inDebug

/-- MDCR_EL3.EPMAD = SDCR.EPMAD (12_context R172). -/
def epmad (s : State) : Bool := s.ctl.mdcr3.getLsbD 21

/-- AllowExternalPMUAccess() (42_external R482). -/
def allowExternal (s : State) : Bool := !s.cfg.haveEL3 || !epmad s || s.cfg.epmadOverride

/-- The columns a register's usage-constraint table has (42_external R483). -/
inductive Gate where
  /-- Off, DLK, OSLK, EPMAD. -/
  | core
  /-- Off, DLK, OSLK: the PC-sample registers, and PMITCTRL in the Core power domain. -/
  | coreOpen
  /-- None: the Debug power domain. -/
  | debug
  deriving DecidableEq, Repr

/-- The column that answers Error, if one does. -/
inductive Blocked where
  /-- Off, DLK or OSLK. -/
  | quiet
  /-- EPMAD. -/
  | epmad
  deriving DecidableEq, Repr

/-- The columns from left to right (42_external R481; log 39). -/
def blocked (g : Gate) (s : State) : Option Blocked :=
  match g with
  | .debug => none
  | .coreOpen => if !s.env.powered || doubleLock s || s.ctl.oslk then some .quiet else none
  | .core =>
    if !s.env.powered || doubleLock s || s.ctl.oslk then some .quiet
    else if !allowExternal s then some .epmad else none

/-- The SPMAD side effect (42_external R486; 92 D24; log 35). -/
def markSpmad (mm : Bool) (s : State) : State :=
  let b :=
    if mm then
      match s.cfg.spmadOnMemMapped with
      | .set => true
      | .unchanged => s.ctl.spmad
      | .draw => s.ctl.spmad || (draw s 0).getLsbD 0
    else true
  bump 1 { s with ctl := { s.ctl with spmad := b } }

/-- The access sees the Software Lock locked: memory-mapped, implemented, SLK = 1 (42_external R481, R488; 13_external
R229). -/
def locked (mm : Bool) (s : State) : Bool := mm && s.cfg.softwareLock && s.pmu.slk

/-- The answer of an access (log 40). -/
def respond (r : Response) (s : State) : State := { s with resp := r }

/-- The Error answer of a blocked access. -/
def errorState (b : Blocked) (mm : Bool) (s : State) : State :=
  respond .error (match b with
    | .quiet => s
    | .epmad => markSpmad mm s)

/-- The block, or its memory-mapped view, is not implemented. -/
def missingView (mm : Bool) (s : State) : Option Refusal :=
  if !s.cfg.haveExternalPMU then some .noExternalView
  else if mm && !s.cfg.haveMemMapped then some .noMemMappedView
  else none

/-- ExtAccess (42_external R481). `read` is the answer and the state after its side effect, given whether the lock is seen
locked; `write` is the effect of a write that no lock stops. -/
def extAccess (g : Gate) (op : ExtOp) (mm : Bool) (read : Bool → State → W32 × State) (write : W32 → State → State)
    (s : State) : Out :=
  match missingView mm s with
  | some r => .refused r
  | none =>
    match blocked g s with
    | some b => .next (errorState b mm s)
    | none =>
      match op with
      | .write v => .next (respond .ok (if locked mm s then s else write v s))
      | .read => .next (respond (.data (read (locked mm s) s).1) (read (locked mm s) s).2)

/-- A register whose read has no side effect. -/
def extPlain (g : Gate) (op : ExtOp) (mm : Bool) (value : State → W32) (write : W32 → State → State) (s : State) : Out :=
  extAccess g op mm (fun _ s => (value s, s)) write s

/-- A read-only register: a write is ignored (42_external R489; log 39). -/
def extReadOnly (g : Gate) (op : ExtOp) (mm : Bool) (value : State → W32) (s : State) : Out :=
  extPlain g op mm value (fun _ s => s) s

/-- A reserved location: a RES0 word of the Core power domain (42_external R497; 92 D18; log 31). -/
def reservedAccess (op : ExtOp) (mm : Bool) (s : State) : Out := extReadOnly .core op mm (fun _ => 0) s

/-- The UNKNOWN_32 that a read of a write-only register gives (42_external R496; log 39). -/
def unknownWord (s : State) : W32 × State := ((draw s 0).setWidth 32, bump 1 s)

/-! ### The identification values (13_external R222 to R248) -/

/-- PMCFGR (13_external R222). -/
def pmcfgr (c : Config) : W32 :=
  0#15 ++ BitVec.ofBool c.haveEventBus ++ BitVec.ofBool (anyAArch32 c) ++ 0x7F#7 ++ BitVec.ofNat 8 c.n.val

/-- MPIDR_EL1 (12_context R210). -/
def mpidr (c : Config) : W64 :=
  0#24 ++ c.aff3 ++ 1#1 ++ BitVec.ofBool c.uniprocessor ++ 0#5 ++ BitVec.ofBool c.isMultithreaded ++ c.aff2 ++ c.aff1 ++
    c.aff0

/-- PMAUTHSTATUS (13_external R232). -/
def pmauthstatus (c : Config) : W32 :=
  let snid : BitVec 2 := if !c.haveEL3 && !c.secureWhenNoEL3 then 0 else 1#1 ++ BitVec.ofBool c.secureNonInvasive
  let nsnid : BitVec 2 := if !c.haveEL3 && c.secureWhenNoEL3 then 0 else 1#1 ++ BitVec.ofBool c.nonSecureNonInvasive
  0#24 ++ snid ++ 0#2 ++ nsnid ++ 0#2

/-- PMLSR: RAZ but for a memory-mapped access with the Software Lock (13_external R230). -/
def pmlsr (mm : Bool) (s : State) : W32 :=
  if mm && s.cfg.softwareLock then 0#30 ++ BitVec.ofBool s.pmu.slk ++ 1#1 else 0

/-- PMLAR (13_external R228): the key 0xC5ACCE55 unlocks, any other value locks; ignored otherwise. -/
def writePmlar (mm : Bool) (v : W32) (s : State) : State :=
  if mm && s.cfg.softwareLock then { s with pmu := { s.pmu with slk := v != 0xC5ACCE55 } } else s

/-- PMITCTRL.IME (13_external R225). -/
def pmitctrl (s : State) : W32 := BitVec.setWidth 32 (BitVec.ofBool s.pmu.ime)
def writePmitctrl (v : W32) (s : State) : State := { s with pmu := { s.pmu with ime := v.getLsbD 0 } }

/-- PMVIDSR. -/
def pmvidsr (s : State) : W32 := s.pmu.vid.setWidth 32

/-! ### The PC-sample latch (13_external R250 to R255; log 41) -/

/-- Chooses the old or the new value of a context ID whose write is not yet synchronised (13_external R253, R254). -/
def oldOrNew (pending choice : Bool) (old new : W32) : W32 := if pending && choice then old else new

/-- PMCID1SR at a sample. -/
def sampledCid1 (s : State) : W32 :=
  let m := s.env.sample
  oldOrNew m.cid1Pending ((draw s 5).getLsbD 0) m.cid1Old m.cid1

/-- PMCID2SR at a sample: UNKNOWN when EL2 uses AArch32 or the sample is Secure (13_external R254). -/
def sampledCid2 (s : State) : W32 :=
  let m := s.env.sample
  if s.pe.aa32El2 || !m.nonSecure then (draw s 2).setWidth 32
  else oldOrNew m.cid2Pending ((draw s 5).getLsbD 1) m.cid2Old m.cid2

/-- PMVIDSR at a sample (13_external R255). Where the field is UNKNOWN and VTTBR.VMID[15:8] are not used, the rule does not say
whether bits [15:8] are UNKNOWN or RES0: all the bits are UNKNOWN (DESIGN CHOICE, log 41). -/
def sampledVid (s : State) : BitVec 16 :=
  let m := s.env.sample
  if !m.nonSecure || m.el == .el2 ||
      (m.nonSecure && m.el == .el0 && !s.pe.aa32El2 && hcrE2h s && hcrTge s) then (draw s 3).setWidth 16
  else if m.vmidWide then m.vmid else m.vmid &&& 0xFF

/-- The bits of PMVIDSR.VMID an implementation has (13_external R255). -/
def vidMask (c : Config) : BitVec 16 := if !c.haveEL2 then 0 else if c.vmid16 then 0xFFFF else 0xFF

/-- The code of an Exception level in PMPCSR (13_external R250). -/
def elCode (e : EL) : BitVec 2 := BitVec.ofNat 2 e.level

/-- Bits [28:24] of PMPCSR[63:32] are RES0 (13_external R250). -/
def pcsrHiMask : W32 := 0xE0FFFFFF

/-- Writes the four latches (13_external R251); PMCID2SR and PMVIDSR are RES0 without EL2. -/
def latch (lo hi cid1 cid2 : W32) (vid : BitVec 16) (s : State) : State :=
  bump 6 { s with
    pmu := { s.pmu with
      pcsr := hi ++ lo
      cid1 := cid1
      cid2 := if s.cfg.haveEL2 then cid2 else 0
      vid := vid &&& vidMask s.cfg } }

/-- A read of PMPCSR[31:0] that samples (13_external R251). -/
def samplePc (s : State) : W32 × State :=
  let unk (k : Nat) : W32 := (draw s k).setWidth 32
  let m := s.env.sample
  let lo : W32 :=
    if s.env.inDebug || s.env.pcProhibited then 0xFFFFFFFF
    else if s.env.inReset || !s.env.retired then unk 4
    else m.pc.setWidth 32
  if s.env.inDebug || s.env.pcProhibited || s.env.inReset || !s.env.retired then
    (lo, latch lo (unk 0 &&& pcsrHiMask) (unk 1) (unk 2) ((draw s 3).setWidth 16) s)
  else
    (lo, latch lo (BitVec.ofBool m.nonSecure ++ elCode m.el ++ 0#5 ++ m.pc.extractLsb' 32 24) (sampledCid1 s)
      (sampledCid2 s) (sampledVid s) s)

/-- A read of PMPCSR[31:0]: without side effect under the lock (13_external R251; 92 D16; log 29). -/
def readPcsrLo (lock : Bool) (s : State) : W32 × State :=
  if lock then (s.pmu.pcsr.setWidth 32, s) else samplePc s

/-! ### The software increment through the external view (42_external R495; 93 U15; log 36) -/

/-- The bits that create an event. -/
def extSwincBits (v : W32) (s : State) : W32 :=
  match s.cfg.extSwinc with
  | .absent => 0
  | .never => 0
  | .always => v
  | .draw => v &&& (draw s 0).setWidth 32

/-- A write of the external PMSWINC_EL0. -/
def extSwinc (v : W32) (s : State) : State := bump 1 (softwareIncrement (extSwincBits v s) s.cfg.n.val s)

end Sys2Proof.Machine
end

