-- ==== Sys2Proof/Machine/Context.lean ====
section
/-! DEFINITION. The registers of the surrounding PE that PMU rules read, by MRS, MSR, MRC and MCR
(spec/12_context_registers.md; spec/60_exceptions.md R640). They are no rows of the opcode table (40_aarch64 R384). What
their pages leave out is log 43. -/
namespace Sys2Proof.Machine

open Sys2Proof

/-! ### The stored words -/

/-- The bits of MDCR_EL2 that are not RES0 (12_context R160). -/
def mdcr2Mask : W32 := 0x00027FFF
/-- The bits of HDCR that are not RES0: no TPMS, no E2PB (12_context R160). -/
def hdcrMask : W32 := 0x00020FFF
/-- The bits of MDCR_EL3 that are not RES0; EPMAD only with an external block (12_context R170, R172). -/
def mdcr3Mask (c : Config) : W32 := if c.haveExternalPMU then 0x0033F640 else 0x0013F640
/-- The bits of SDCR that are not RES0 (12_context R173). -/
def sdcrMask (c : Config) : W32 := if c.haveExternalPMU then 0x0032C000 else 0x0012C000
/-- SUNIDEN and SUIDEN (12_context R175). -/
def sderMask : W32 := 3
/-- T0 to T15 without T4 and T14 (12_context R180). -/
def hstrMask : W32 := 0x0000BFEF

/-- Writes the bits of a mask and leaves the others. -/
def mergeBits (mask old v : W32) : W32 := (v &&& mask) ||| (old &&& ~~~mask)

/-- MDCR_EL2 as read: HPMN is UNKNOWN_5 when its value is not legal (12_context R162). -/
def mdcr2Value (s : State) : W32 := s.ctl.mdcr2.extractLsb' 5 27 ++ hpmnRead s

/-- SCR_EL3 as read: RW is RAO when no lower level can use AArch32 (12_context R184). -/
def scrValue (s : State) : W32 := if lowerAArch32 s.cfg then s.ctl.scr else s.ctl.scr ||| 0x400

/-- OSLSR_EL1: OSLM = 0b10, OSLK (12_context R190). -/
def oslsrValue (s : State) : W32 := 0#28 ++ 1#1 ++ 0#1 ++ BitVec.ofBool s.ctl.oslk ++ 0#1

/-- ID_AA64DFR0_EL1: PMUVer = 0b0100; the other fields are the implementation's (12_context R186). -/
def idAa64dfr0Value : W64 := (Config.idAa64dfr0 &&& ~~~0xF00#64) ||| 0x400#64

/-- EDDFR: the same PMUVer field; the other bits are the implementation's (12_context R186). -/
def eddfrValue : W64 := (Config.eddfr &&& ~~~0xF00#64) ||| 0x400#64

/-- ID_DFR0 = ID_DFR0_EL1: PerfMon = 0b0100; the other fields are the implementation's (12_context R187). -/
def idDfr0Value : W32 := (Config.idDfr0 &&& ~~~0x0F000000#32) ||| 0x04000000#32

/-- CurrentEL: EL in bits [3:2] (60_exceptions R640). -/
def currentElValue (s : State) : W32 := (elCode (currentEL s) ++ 0#2).setWidth 32

/-- Without EL2 the EL2 registers are RES0 from EL3; HSTR also when no level can use AArch32 (12_context R160, R180). -/
def hstrExists (c : Config) : Bool := c.haveEL2 && anyAArch32 c

/-! ### AArch64 -/

/-- Accessible at a level, for a read or a write (12_context R168, R170, R175, R180 to R193, R210; 60_exceptions R640). -/
def ctxAllocated64 (c : Config) (r : Ctx64Reg) (wr : Bool) (el : EL) : Bool :=
  match r with
  | .mdcrEl2 => el == .el2 || el == .el3
  | .hstrEl2 => el == .el2 || el == .el3
  | .hcrEl2 => el == .el2 || el == .el3
  | .mdcrEl3 => el == .el3
  | .scrEl3 => el == .el3
  | .sder32El3 => el == .el3 && canAArch32 c .el1
  | .oslsrEl1 => !wr && el != .el0
  | .oslarEl1 => wr && el != .el0
  | .osdlrEl1 => el != .el0
  | .dbgprcrEl1 => el != .el0
  | .idAa64dfr0El1 => !wr && el != .el0
  | .idDfr0El1 => !wr && el != .el0
  | .mpidrEl1 => !wr && el != .el0
  | .currentEl => !wr && el != .el0

/-- The OS-related debug registers that MDCR_EL2.TDOSA names (12_context R161). -/
def osRegister : Ctx64Reg → Bool
  | .oslsrEl1 => true
  | .oslarEl1 => true
  | .osdlrEl1 => true
  | .dbgprcrEl1 => true
  | _ => false

/-- MDCR_EL2.TDOSA, and as if 1 with TDE or TGE (12_context R161). -/
def tdosaActs (s : State) : Bool := s.ctl.mdcr2.getLsbD 10 || s.ctl.mdcr2.getLsbD 8 || hcrTge s

/-- MDCR_EL3.TDA traps an access of MDCR_EL2 or HDCR from EL2 to EL3, when EL3 uses AArch64 (12_context R168). -/
def tdaTraps (s : State) : Bool :=
  s.cfg.haveEL3 && !s.pe.aa32El3 && currentEL s == .el2 && s.ctl.mdcr3.getLsbD 9

/-- The exception that ends an access to a context register, if any. -/
def ctxTrap64 (r : Ctx64Reg) (wr : Bool) (t : BitVec 5) (s : State) : Option Exc :=
  if !ctxAllocated64 s.cfg r wr (currentEL s) then some (undefinedExc s)
  else if osRegister r && guestView s && tdosaActs s then some (.toAArch64 .el2 (syndrome64 r.sel wr t))
  else if r == .mdcrEl2 && tdaTraps s then some (.toAArch64 .el3 (syndrome64 r.sel wr t))
  else none

/-- What a read returns. -/
def ctxRead64 (s : State) : Ctx64Reg → W64
  | .mdcrEl2 => if s.cfg.haveEL2 then (mdcr2Value s).setWidth 64 else 0
  | .mdcrEl3 => s.ctl.mdcr3.setWidth 64
  | .sder32El3 => s.ctl.sder.setWidth 64
  | .hstrEl2 => if hstrExists s.cfg then s.ctl.hstr.setWidth 64 else 0
  | .hcrEl2 => if s.cfg.haveEL2 then s.ctl.hcr else 0
  | .scrEl3 => (scrValue s).setWidth 64
  | .oslsrEl1 => (oslsrValue s).setWidth 64
  | .oslarEl1 => 0
  | .osdlrEl1 => BitVec.setWidth 64 (BitVec.ofBool s.ctl.dlk)
  | .dbgprcrEl1 => BitVec.setWidth 64 (BitVec.ofBool s.ctl.corenpdrq)
  | .idAa64dfr0El1 => idAa64dfr0Value
  | .idDfr0El1 => idDfr0Value.setWidth 64
  | .mpidrEl1 => mpidr s.cfg
  | .currentEl => (currentElValue s).setWidth 64

/-- What a write does. -/
def ctxWrite64 (cfg : Config) (r : Ctx64Reg) (v : W64) (c : Ctl) : Ctl :=
  let w : W32 := v.setWidth 32
  match r with
  | .mdcrEl2 => if cfg.haveEL2 then { c with mdcr2 := mergeBits mdcr2Mask c.mdcr2 w } else c
  | .mdcrEl3 => { c with mdcr3 := mergeBits (mdcr3Mask cfg) c.mdcr3 w }
  | .sder32El3 => { c with sder := mergeBits sderMask c.sder w }
  | .hstrEl2 => if hstrExists cfg then { c with hstr := mergeBits hstrMask c.hstr w } else c
  | .hcrEl2 => if cfg.haveEL2 then { c with hcr := v } else c
  | .scrEl3 => { c with scr := w }
  | .oslarEl1 => { c with oslk := w.getLsbD 0 }
  | .osdlrEl1 => { c with dlk := w.getLsbD 0 }
  | .dbgprcrEl1 => { c with corenpdrq := w.getLsbD 0 }
  | .oslsrEl1 => c
  | .idAa64dfr0El1 => c
  | .idDfr0El1 => c
  | .mpidrEl1 => c
  | .currentEl => c

/-- The registers that say which levels exist in which Security and Execution state. -/
def controls64 : Ctx64Reg → Bool
  | .scrEl3 => true
  | .hcrEl2 => true
  | _ => false

/-- The end of a write of a context register. -/
def finishCtx (controls : Bool) (ctl : Ctl) (s : State) : State :=
  if controls then controlChanged (retire { s with ctl := ctl }) else retire { s with ctl := ctl }

/-- MRS or MSR of a context register. -/
def ctxAccess64 (r : Ctx64Reg) (wr : Bool) (t : BitVec 5) (s : State) : State :=
  match ctxTrap64 r wr t s with
  | some x => takeException x s
  | none =>
    if wr then finishCtx (controls64 r) (ctxWrite64 s.cfg r (readX s t) s.ctl) s
    else finishMrs t (ctxRead64 s r) 1 s

/-! ### AArch32 -/

/-- Accessible in the current state (12_context R168, R173, R175, R180, R184, R187; HCR as HDCR, log 43). SCR
has no permission of its own in the spec: at EL3 only, as SCR_EL3 has (R184), and UNDEFINED below (DESIGN CHOICE, log 43). -/
def ctxAllocated32 (r : Ctx32Reg) (wr : Bool) (s : State) : Bool :=
  let el := currentEL s
  match r with
  | .hdcr => el == .el2 || (el == .el3 && scrNs s)
  | .hstr => el == .el2 || el == .el3
  | .hcr => el == .el2 || (el == .el3 && scrNs s)
  | .sdcr => el == .el3
  | .scr => el == .el3
  | .sder => (el == .el1 && isSecure s) || el == .el3
  | .idDfr0 => !wr && el != .el0

/-- The exception that ends an access, if any. SDCR from Secure EL1 with EL3 using AArch64 is trapped to EL3
(12_context R173), SCR there is UNDEFINED (DESIGN CHOICE, log 43); a Non-secure EL1 access that is not UNDEFINED is trapped by HSTR.T<CRn> (R180). -/
def ctxTrap32 (r : Ctx32Reg) (wr : Bool) (c t : BitVec 4) (s : State) : Option Exc :=
  let syn := esr32 s (.single r.sel wr c t)
  if r == .sdcr && currentEL s == .el1 && isSecure s && s.cfg.haveEL3 && !s.pe.aa32El3 then
    some (.toAArch64 .el3 syn)
  else if !ctxAllocated32 r wr s then some (undefinedExc s)
  else if guestView s && hstrEff r.sel.crn.toNat s then some (el2TrapExc32 (.single r.sel wr c t) s)
  else if r == .hdcr && tdaTraps s then some (.toAArch64 .el3 syn)
  else none

/-- What a read returns. -/
def ctxRead32 (s : State) : Ctx32Reg → W32
  | .hdcr => if s.cfg.haveEL2 then mdcr2Value s &&& hdcrMask else 0
  | .sdcr => s.ctl.mdcr3 &&& sdcrMask s.cfg
  | .sder => s.ctl.sder
  | .hstr => if hstrExists s.cfg then s.ctl.hstr else 0
  | .hcr => if s.cfg.haveEL2 then s.ctl.hcr.setWidth 32 else 0
  | .scr => scrValue s
  | .idDfr0 => idDfr0Value

/-- What a write does. -/
def ctxWrite32 (cfg : Config) (r : Ctx32Reg) (v : W32) (c : Ctl) : Ctl :=
  match r with
  | .hdcr => if cfg.haveEL2 then { c with mdcr2 := mergeBits hdcrMask c.mdcr2 v } else c
  | .sdcr => { c with mdcr3 := mergeBits (sdcrMask cfg) c.mdcr3 v }
  | .sder => { c with sder := mergeBits sderMask c.sder v }
  | .hstr => if hstrExists cfg then { c with hstr := mergeBits hstrMask c.hstr v } else c
  | .hcr => if cfg.haveEL2 then { c with hcr := c.hcr.extractLsb' 32 32 ++ v } else c
  | .scr => { c with scr := v }
  | .idDfr0 => c

def controls32 : Ctx32Reg → Bool
  | .scr => true
  | .hcr => true
  | _ => false

/-- MRC or MCR of a context register. Rt = 15 is refused as in a PMU access, where the spec is silent (30_encoding R334 is about
PMU registers; DESIGN CHOICE, log 20). -/
def ctxAccess32 (r : Ctx32Reg) (wr : Bool) (c t : BitVec 4) (s : State) : Out :=
  conditional32 c (wfReg32 t) (fun s =>
    match ctxTrap32 r wr c t s with
    | some x => takeException x s
    | none =>
      if wr then finishCtx (controls32 r) (ctxWrite32 s.cfg r (readR s t) s.ctl) s
      else finishMrc t (ctxRead32 s r) 1 s) s

/-- An access to a context register. -/
def ctxAccess (a : CtxAccess) (s : State) : Out :=
  match a with
  | .a64 r wr t => .next (ctxAccess64 r wr t s)
  | .a32 r wr c t => ctxAccess32 r wr c t s

/-! ### EDPRSR (12_context R200 to R206; log 42) -/

/-- EDPRSR.PU. -/
def edprsrPu (s : State) : Bool := s.env.powered && !doubleLock s

/-- EPMAD as EDPRSR shows it: RAO when external access is not implemented (12_context R204). -/
def edprsrEpmad (s : State) : Bool := !s.cfg.haveExternalPMU || !allowExternal s

/-- SPMAD and EPMAD are UNKNOWN when DoubleLockStatus() is TRUE, OSLK or R is 1, or PU is 0; OSLK when R is 1 or PU is
0; SPD reads 0 with PU = 0; the fields no PMU rule reads are free. The bit R is out of scope (12_context R200): that R is 1
is taken to be the input Env.inReset, while the bit shown, bit 2, is a free value; where external access is not implemented
(EPMAD is RAO) and a case that makes EPMAD UNKNOWN holds too, the rule does not say which wins, and it is UNKNOWN (DESIGN
CHOICE, log 42). -/
def edprsrValue (s : State) : W32 :=
  let f := draw s 0
  let pu := edprsrPu s
  let unk := !pu || s.env.inReset
  let spmad := if unk || s.ctl.oslk then f.getLsbD 10 else s.ctl.spmad
  let epmad := if unk || s.ctl.oslk then f.getLsbD 9 else edprsrEpmad s
  let dlk := if pu then false else f.getLsbD 6
  let oslk := if unk then f.getLsbD 5 else s.ctl.oslk
  0#20 ++ f.extractLsb' 11 1 ++ BitVec.ofBool spmad ++ BitVec.ofBool epmad ++ f.extractLsb' 7 2 ++ BitVec.ofBool dlk ++
    BitVec.ofBool oslk ++ f.extractLsb' 2 3 ++ BitVec.ofBool (pu && f.getLsbD 1) ++ BitVec.ofBool pu

/-- SPMAD after a read: cleared with PU = 1 and the Debug component's lock not set; a free choice under the OS Double
Lock; kept with the core off (12_context R205, R206). -/
def spmadAfterRead (lock : Bool) (s : State) : Bool :=
  if lock || !s.env.powered then s.ctl.spmad
  else if doubleLock s then s.ctl.spmad && (draw s 1).getLsbD 0
  else false

/-- A read of EDPRSR. -/
def readEdprsr (lock : Bool) (s : State) : State :=
  bump 2 (respond (.data (edprsrValue s)) { s with ctl := { s.ctl with spmad := spmadAfterRead lock s } })

end Sys2Proof.Machine
end

