-- ==== Sys2Proof/Machine/A32.lean ====
section
/-! DEFINITION. The meanings of MRC, MCR, MRRC and MCRR, one per row of the opcode table (spec/41_aarch32_access.md R430
to R447). -/
namespace Sys2Proof.Machine

open Sys2Proof

/-- `MRC p15, 0, Rt, c9, c12, 0 ; PMCR` (41_aarch32 R430). -/
def execMrcPmcr (c t : BitVec 4) (s : State) : Out :=
  mrc32 .pmcr c t (fun _ s => finishMrc t (pmcrValue s) 1 s) s

/-- `MCR p15, 0, Rt, c9, c12, 0 ; PMCR` (41_aarch32 R430). -/
def execMcrPmcr (c t : BitVec 4) (s : State) : Out :=
  mcr32 .pmcr c t (fun _ s => retire (writePmcr (readR s t) (accessibleN s) s)) s

/-- `MRC p15, 0, Rt, c9, c12, 1 ; PMCNTENSET` (41_aarch32 R431). -/
def execMrcPmcntenset (c t : BitVec 4) (s : State) : Out :=
  mrc32 .pmcntenset c t (fun _ s => finishMrc t (s.pmu.cnten &&& visibleMask s) 0 s) s

/-- `MCR p15, 0, Rt, c9, c12, 1 ; PMCNTENSET` (41_aarch32 R431). -/
def execMcrPmcntenset (c t : BitVec 4) (s : State) : Out :=
  mcr32 .pmcntenset c t (fun _ s => retire (setCnten (readR s t &&& visibleMask s) s)) s

/-- `MRC p15, 0, Rt, c9, c12, 2 ; PMCNTENCLR` (41_aarch32 R432). -/
def execMrcPmcntenclr (c t : BitVec 4) (s : State) : Out :=
  mrc32 .pmcntenclr c t (fun _ s => finishMrc t (s.pmu.cnten &&& visibleMask s) 0 s) s

/-- `MCR p15, 0, Rt, c9, c12, 2 ; PMCNTENCLR` (41_aarch32 R432). -/
def execMcrPmcntenclr (c t : BitVec 4) (s : State) : Out :=
  mcr32 .pmcntenclr c t (fun _ s => retire (clearCnten (readR s t &&& visibleMask s) s)) s

/-- `MRC p15, 0, Rt, c9, c12, 3 ; PMOVSR` (41_aarch32 R434). -/
def execMrcPmovsr (c t : BitVec 4) (s : State) : Out :=
  mrc32 .pmovsr c t (fun _ s => finishMrc t (s.pmu.ovs &&& visibleMask s) 0 s) s

/-- `MCR p15, 0, Rt, c9, c12, 3 ; PMOVSR` (41_aarch32 R434). -/
def execMcrPmovsr (c t : BitVec 4) (s : State) : Out :=
  mcr32 .pmovsr c t (fun _ s => retire (clearOvs (readR s t &&& visibleMask s) s)) s

/-- `MCR p15, 0, Rt, c9, c12, 4 ; PMSWINC` (41_aarch32 R433). -/
def execMcrPmswinc (c t : BitVec 4) (s : State) : Out :=
  mcr32 .pmswinc c t (fun _ s => retire (softwareIncrement (readR s t) (accessibleN s) s)) s

/-- `MRC p15, 0, Rt, c9, c12, 5 ; PMSELR` (41_aarch32 R435). -/
def execMrcPmselr (c t : BitVec 4) (s : State) : Out :=
  mrc32 .pmselr c t (fun _ s => finishMrc t ((selValue s).setWidth 32) 1 s) s

/-- `MCR p15, 0, Rt, c9, c12, 5 ; PMSELR` (41_aarch32 R435). -/
def execMcrPmselr (c t : BitVec 4) (s : State) : Out :=
  mcr32 .pmselr c t (fun _ s => retire (writeSel (readR s t) s)) s

/-- `MRC p15, 0, Rt, c9, c12, 6 ; PMCEID0` (41_aarch32 R436). -/
def execMrcPmceid0 (c t : BitVec 4) (s : State) : Out :=
  mrc32 .pmceid0 c t (fun _ s => finishMrc t ((ceid0 s.cfg).extractLsb' 0 32) 0 s) s

/-- `MRC p15, 0, Rt, c9, c12, 7 ; PMCEID1` (41_aarch32 R436). -/
def execMrcPmceid1 (c t : BitVec 4) (s : State) : Out :=
  mrc32 .pmceid1 c t (fun _ s => finishMrc t ((ceid1 s.cfg).extractLsb' 0 32) 0 s) s

/-- `MRC p15, 0, Rt, c9, c13, 0 ; PMCCNTR` (41_aarch32 R437). -/
def execMrcPmccntr (c t : BitVec 4) (s : State) : Out :=
  mrc32 .pmccntr c t (fun _ s => finishMrc t (s.pmu.ccnt.setWidth 32) 0 s) s

/-- `MCR p15, 0, Rt, c9, c13, 0 ; PMCCNTR` (41_aarch32 R437). -/
def execMcrPmccntr (c t : BitVec 4) (s : State) : Out :=
  mcr32 .pmccntr c t (fun _ s => retire (writeCcntLo (readR s t) s)) s

/-- `MRC p15, 0, Rt, c9, c13, 1 ; PMXEVTYPER` (41_aarch32 R438). -/
def execMrcPmxevtyper (c t : BitVec 4) (s : State) : Out :=
  mrc32 .pmxevtyper c t (fun n s => finishMrc t (xtypeValue s n &&& ~~~mBit) 2 s) s

/-- `MCR p15, 0, Rt, c9, c13, 1 ; PMXEVTYPER` (41_aarch32 R438). -/
def execMcrPmxevtyper (c t : BitVec 4) (s : State) : Out :=
  mcr32 .pmxevtyper c t (fun n s => retire (bump 2 (writeXtype32 n (readR s t) s))) s

/-- `MRC p15, 0, Rt, c9, c13, 2 ; PMXEVCNTR` (41_aarch32 R439). -/
def execMrcPmxevcntr (c t : BitVec 4) (s : State) : Out :=
  mrc32 .pmxevcntr c t (fun n s => finishMrc t (evcntAt s.pmu n) 2 s) s

/-- `MCR p15, 0, Rt, c9, c13, 2 ; PMXEVCNTR` (41_aarch32 R439). -/
def execMcrPmxevcntr (c t : BitVec 4) (s : State) : Out :=
  mcr32 .pmxevcntr c t (fun n s => retire (bump 2 (writeEvcnt n (readR s t) s))) s

/-- `MRC p15, 0, Rt, c9, c14, 0 ; PMUSERENR` (41_aarch32 R441). -/
def execMrcPmuserenr (c t : BitVec 4) (s : State) : Out :=
  mrc32 .pmuserenr c t (fun _ s => finishMrc t (userenValue s) 0 s) s

/-- `MCR p15, 0, Rt, c9, c14, 0 ; PMUSERENR` (41_aarch32 R441). -/
def execMcrPmuserenr (c t : BitVec 4) (s : State) : Out :=
  mcr32 .pmuserenr c t (fun _ s => retire (writeUseren (readR s t) s)) s

/-- `MRC p15, 0, Rt, c9, c14, 1 ; PMINTENSET` (41_aarch32 R442). -/
def execMrcPmintenset (c t : BitVec 4) (s : State) : Out :=
  mrc32 .pmintenset c t (fun _ s => finishMrc t (s.pmu.inten &&& visibleMask s) 0 s) s

/-- `MCR p15, 0, Rt, c9, c14, 1 ; PMINTENSET` (41_aarch32 R442). -/
def execMcrPmintenset (c t : BitVec 4) (s : State) : Out :=
  mcr32 .pmintenset c t (fun _ s => retire (setInten (readR s t &&& visibleMask s) s)) s

/-- `MRC p15, 0, Rt, c9, c14, 2 ; PMINTENCLR` (41_aarch32 R443). -/
def execMrcPmintenclr (c t : BitVec 4) (s : State) : Out :=
  mrc32 .pmintenclr c t (fun _ s => finishMrc t (s.pmu.inten &&& visibleMask s) 0 s) s

/-- `MCR p15, 0, Rt, c9, c14, 2 ; PMINTENCLR` (41_aarch32 R443). -/
def execMcrPmintenclr (c t : BitVec 4) (s : State) : Out :=
  mcr32 .pmintenclr c t (fun _ s => retire (clearInten (readR s t &&& visibleMask s) s)) s

/-- `MRC p15, 0, Rt, c9, c14, 3 ; PMOVSSET` (41_aarch32 R444). -/
def execMrcPmovsset (c t : BitVec 4) (s : State) : Out :=
  mrc32 .pmovsset c t (fun _ s => finishMrc t (s.pmu.ovs &&& visibleMask s) 0 s) s

/-- `MCR p15, 0, Rt, c9, c14, 3 ; PMOVSSET` (41_aarch32 R444). -/
def execMcrPmovsset (c t : BitVec 4) (s : State) : Out :=
  mcr32 .pmovsset c t (fun _ s => retire (setOvs (readR s t &&& visibleMask s) s)) s

/-- `MRC p15, 0, Rt, c9, c14, 4 ; PMCEID2` (41_aarch32 R436). -/
def execMrcPmceid2 (c t : BitVec 4) (s : State) : Out :=
  mrc32 .pmceid2 c t (fun _ s => finishMrc t ((ceid0 s.cfg).extractLsb' 32 32) 0 s) s

/-- `MRC p15, 0, Rt, c9, c14, 5 ; PMCEID3` (41_aarch32 R436). -/
def execMrcPmceid3 (c t : BitVec 4) (s : State) : Out :=
  mrc32 .pmceid3 c t (fun _ s => finishMrc t ((ceid1 s.cfg).extractLsb' 32 32) 0 s) s

/-- `MRC p15, 0, Rt, c14, c15, 7 ; PMCCFILTR` (41_aarch32 R445). -/
def execMrcPmccfiltr (c t : BitVec 4) (s : State) : Out :=
  mrc32 .pmccfiltr c t (fun _ s => finishMrc t (s.pmu.ccfilt &&& ~~~mBit) 0 s) s

/-- `MCR p15, 0, Rt, c14, c15, 7 ; PMCCFILTR` (41_aarch32 R445). -/
def execMcrPmccfiltr (c t : BitVec 4) (s : State) : Out :=
  mcr32 .pmccfiltr c t (fun _ s => retire (writeCcfilt32 (readR s t) s)) s

/-- `MRC p15, 0, Rt, c14, c<10:n[4:3]>, <n[2:0]> ; PMEVCNTR<n>` (41_aarch32 R446). -/
def execMrcPmevcntrn (c : BitVec 4) (n : BitVec 5) (t : BitVec 4) (s : State) : Out :=
  mrc32 (.pmevcntr n) c t (fun i s => finishMrc t (evcntAt s.pmu i) 0 s) s

/-- `MCR p15, 0, Rt, c14, c<10:n[4:3]>, <n[2:0]> ; PMEVCNTR<n>` (41_aarch32 R446). -/
def execMcrPmevcntrn (c : BitVec 4) (n : BitVec 5) (t : BitVec 4) (s : State) : Out :=
  mcr32 (.pmevcntr n) c t (fun i s => retire (writeEvcnt i (readR s t) s)) s

/-- `MRC p15, 0, Rt, c14, c<11:n[4:3]>, <n[2:0]> ; PMEVTYPER<n>` (41_aarch32 R447). -/
def execMrcPmevtypern (c : BitVec 4) (n : BitVec 5) (t : BitVec 4) (s : State) : Out :=
  mrc32 (.pmevtyper n) c t (fun i s => finishMrc t (evtypeValue s i &&& ~~~mBit) 1 s) s

/-- `MCR p15, 0, Rt, c14, c<11:n[4:3]>, <n[2:0]> ; PMEVTYPER<n>` (41_aarch32 R447). -/
def execMcrPmevtypern (c : BitVec 4) (n : BitVec 5) (t : BitVec 4) (s : State) : Out :=
  mcr32 (.pmevtyper n) c t (fun i s => retire (writeEvtype32 i (readR s t) s)) s

/-- `MRRC p15, 0, Rt, Rt2, c9 ; PMCCNTR` (41_aarch32 R440): Rt takes the low word (PRESUMED, as the rule marks it; log 20). -/
def execMrrcPmccntr (c t t2 : BitVec 4) (s : State) : Out :=
  conditional32 c (wfReg32 t && wfReg32 t2 && t != t2)
    (access32 .pmccntr false (.wide false c t t2) (fun s => writeR t2 0 (writeR t 0 s))
      (fun _ s => retire (writeR t2 (s.pmu.ccnt.extractLsb' 32 32) (writeR t (s.pmu.ccnt.setWidth 32) s)))) s

/-- `MCRR p15, 0, Rt, Rt2, c9 ; PMCCNTR` (41_aarch32 R440): Rt holds the low word (PRESUMED, as the rule marks it; log 20). -/
def execMcrrPmccntr (c t t2 : BitVec 4) (s : State) : Out :=
  conditional32 c (wfReg32 t && wfReg32 t2)
    (access32 .pmccntr true (.wide true c t t2) id
      (fun _ s => retire (writeCcnt (readR s t2 ++ readR s t) s))) s

end Sys2Proof.Machine
end

