-- ==== Sys2Proof/Machine/A64.lean ====
section
/-! DEFINITION. The meanings of MRS and MSR, one per row of the opcode table (spec/40_aarch64_access.md R369 to R391). -/
namespace Sys2Proof.Machine

open Sys2Proof

/-- `MRS Xt, PMCR_EL0` (40_aarch64 R369). -/
def execMrsPmcr (t : BitVec 5) (s : State) : Out :=
  .next (access64 .pmcr false t (fun _ s => finishMrs32 t (pmcrValue s) 1 s) s)

/-- `MSR PMCR_EL0, Xt` (40_aarch64 R370). -/
def execMsrPmcr (t : BitVec 5) (s : State) : Out :=
  .next (access64 .pmcr true t (fun _ s => retire (writePmcr (operand64 t s) (accessibleN s) s)) s)

/-- `MRS Xt, PMCNTENSET_EL0` (40_aarch64 R371). -/
def execMrsPmcntenset (t : BitVec 5) (s : State) : Out :=
  .next (access64 .pmcntenset false t (fun _ s => finishMrs32 t (s.pmu.cnten &&& visibleMask s) 0 s) s)

/-- `MSR PMCNTENSET_EL0, Xt` (40_aarch64 R371). -/
def execMsrPmcntenset (t : BitVec 5) (s : State) : Out :=
  .next (access64 .pmcntenset true t (fun _ s => retire (setCnten (operand64 t s &&& visibleMask s) s)) s)

/-- `MRS Xt, PMCNTENCLR_EL0` (40_aarch64 R373). -/
def execMrsPmcntenclr (t : BitVec 5) (s : State) : Out :=
  .next (access64 .pmcntenclr false t (fun _ s => finishMrs32 t (s.pmu.cnten &&& visibleMask s) 0 s) s)

/-- `MSR PMCNTENCLR_EL0, Xt` (40_aarch64 R373). -/
def execMsrPmcntenclr (t : BitVec 5) (s : State) : Out :=
  .next (access64 .pmcntenclr true t (fun _ s => retire (clearCnten (operand64 t s &&& visibleMask s) s)) s)

/-- `MRS Xt, PMOVSCLR_EL0` (40_aarch64 R374). -/
def execMrsPmovsclr (t : BitVec 5) (s : State) : Out :=
  .next (access64 .pmovsclr false t (fun _ s => finishMrs32 t (s.pmu.ovs &&& visibleMask s) 0 s) s)

/-- `MSR PMOVSCLR_EL0, Xt` (40_aarch64 R374). -/
def execMsrPmovsclr (t : BitVec 5) (s : State) : Out :=
  .next (access64 .pmovsclr true t (fun _ s => retire (clearOvs (operand64 t s &&& visibleMask s) s)) s)

/-- `MSR PMSWINC_EL0, Xt` (40_aarch64 R372). -/
def execMsrPmswinc (t : BitVec 5) (s : State) : Out :=
  .next (access64 .pmswinc true t (fun _ s => retire (softwareIncrement (operand64 t s) (accessibleN s) s)) s)

/-- `MRS Xt, PMSELR_EL0` (40_aarch64 R378). -/
def execMrsPmselr (t : BitVec 5) (s : State) : Out :=
  .next (access64 .pmselr false t (fun _ s => finishMrs32 t ((selValue s).setWidth 32) 1 s) s)

/-- `MSR PMSELR_EL0, Xt` (40_aarch64 R378). -/
def execMsrPmselr (t : BitVec 5) (s : State) : Out :=
  .next (access64 .pmselr true t (fun _ s => retire (writeSel (operand64 t s) s)) s)

/-- `MRS Xt, PMCEID0_EL0` (40_aarch64 R379). -/
def execMrsPmceid0 (t : BitVec 5) (s : State) : Out :=
  .next (access64 .pmceid0 false t (fun _ s => finishMrs t (ceid0 s.cfg) 0 s) s)

/-- `MRS Xt, PMCEID1_EL0` (40_aarch64 R379). -/
def execMrsPmceid1 (t : BitVec 5) (s : State) : Out :=
  .next (access64 .pmceid1 false t (fun _ s => finishMrs t (ceid1 s.cfg) 0 s) s)

/-- `MRS Xt, PMCCNTR_EL0` (40_aarch64 R385). -/
def execMrsPmccntr (t : BitVec 5) (s : State) : Out :=
  .next (access64 .pmccntr false t (fun _ s => finishMrs t s.pmu.ccnt 0 s) s)

/-- `MSR PMCCNTR_EL0, Xt` (40_aarch64 R385). -/
def execMsrPmccntr (t : BitVec 5) (s : State) : Out :=
  .next (access64 .pmccntr true t (fun _ s => retire (writeCcnt (readX s t) s)) s)

/-- `MRS Xt, PMXEVTYPER_EL0` (40_aarch64 R390). -/
def execMrsPmxevtyper (t : BitVec 5) (s : State) : Out :=
  .next (access64 .pmxevtyper false t (fun n s => finishMrs32 t (xtypeValue s n) 2 s) s)

/-- `MSR PMXEVTYPER_EL0, Xt` (40_aarch64 R390). -/
def execMsrPmxevtyper (t : BitVec 5) (s : State) : Out :=
  .next (access64 .pmxevtyper true t (fun n s => retire (bump 2 (writeXtype n (operand64 t s) s))) s)

/-- `MRS Xt, PMXEVCNTR_EL0` (40_aarch64 R389). -/
def execMrsPmxevcntr (t : BitVec 5) (s : State) : Out :=
  .next (access64 .pmxevcntr false t (fun n s => finishMrs32 t (evcntAt s.pmu n) 2 s) s)

/-- `MSR PMXEVCNTR_EL0, Xt` (40_aarch64 R389). -/
def execMsrPmxevcntr (t : BitVec 5) (s : State) : Out :=
  .next (access64 .pmxevcntr true t (fun n s => retire (bump 2 (writeEvcnt n (operand64 t s) s))) s)

/-- `MRS Xt, PMUSERENR_EL0` (40_aarch64 R391). -/
def execMrsPmuserenr (t : BitVec 5) (s : State) : Out :=
  .next (access64 .pmuserenr false t (fun _ s => finishMrs32 t (userenValue s) 0 s) s)

/-- `MSR PMUSERENR_EL0, Xt` (40_aarch64 R391). -/
def execMsrPmuserenr (t : BitVec 5) (s : State) : Out :=
  .next (access64 .pmuserenr true t (fun _ s => retire (writeUseren (operand64 t s) s)) s)

/-- `MRS Xt, PMINTENSET_EL1` (40_aarch64 R376). -/
def execMrsPmintenset (t : BitVec 5) (s : State) : Out :=
  .next (access64 .pmintenset false t (fun _ s => finishMrs32 t (s.pmu.inten &&& visibleMask s) 0 s) s)

/-- `MSR PMINTENSET_EL1, Xt` (40_aarch64 R376). -/
def execMsrPmintenset (t : BitVec 5) (s : State) : Out :=
  .next (access64 .pmintenset true t (fun _ s => retire (setInten (operand64 t s &&& visibleMask s) s)) s)

/-- `MRS Xt, PMINTENCLR_EL1` (40_aarch64 R377). -/
def execMrsPmintenclr (t : BitVec 5) (s : State) : Out :=
  .next (access64 .pmintenclr false t (fun _ s => finishMrs32 t (s.pmu.inten &&& visibleMask s) 0 s) s)

/-- `MSR PMINTENCLR_EL1, Xt` (40_aarch64 R377). -/
def execMsrPmintenclr (t : BitVec 5) (s : State) : Out :=
  .next (access64 .pmintenclr true t (fun _ s => retire (clearInten (operand64 t s &&& visibleMask s) s)) s)

/-- `MRS Xt, PMOVSSET_EL0` (40_aarch64 R375). -/
def execMrsPmovsset (t : BitVec 5) (s : State) : Out :=
  .next (access64 .pmovsset false t (fun _ s => finishMrs32 t (s.pmu.ovs &&& visibleMask s) 0 s) s)

/-- `MSR PMOVSSET_EL0, Xt` (40_aarch64 R375). -/
def execMsrPmovsset (t : BitVec 5) (s : State) : Out :=
  .next (access64 .pmovsset true t (fun _ s => retire (setOvs (operand64 t s &&& visibleMask s) s)) s)

/-- `MRS Xt, PMCCFILTR_EL0` (40_aarch64 R386). -/
def execMrsPmccfiltr (t : BitVec 5) (s : State) : Out :=
  .next (access64 .pmccfiltr false t (fun _ s => finishMrs32 t s.pmu.ccfilt 0 s) s)

/-- `MSR PMCCFILTR_EL0, Xt` (40_aarch64 R386). -/
def execMsrPmccfiltr (t : BitVec 5) (s : State) : Out :=
  .next (access64 .pmccfiltr true t (fun _ s => retire (writeCcfilt (operand64 t s) s)) s)

/-- `MRS Xt, PMEVCNTR<n>_EL0` (40_aarch64 R387). -/
def execMrsPmevcntrn (n t : BitVec 5) (s : State) : Out :=
  .next (access64 (.pmevcntr n) false t (fun i s => finishMrs32 t (evcntAt s.pmu i) 0 s) s)

/-- `MSR PMEVCNTR<n>_EL0, Xt` (40_aarch64 R387). -/
def execMsrPmevcntrn (n t : BitVec 5) (s : State) : Out :=
  .next (access64 (.pmevcntr n) true t (fun i s => retire (writeEvcnt i (operand64 t s) s)) s)

/-- `MRS Xt, PMEVTYPER<n>_EL0` (40_aarch64 R388). -/
def execMrsPmevtypern (n t : BitVec 5) (s : State) : Out :=
  .next (access64 (.pmevtyper n) false t (fun i s => finishMrs32 t (evtypeValue s i) 1 s) s)

/-- `MSR PMEVTYPER<n>_EL0, Xt` (40_aarch64 R388). -/
def execMsrPmevtypern (n t : BitVec 5) (s : State) : Out :=
  .next (access64 (.pmevtyper n) true t (fun i s => retire (writeEvtype i (operand64 t s) s)) s)

end Sys2Proof.Machine
end

