-- ==== Sys2Proof/Machine/Ext.lean ====
section
/-! DEFINITION. The meanings of the external accesses, one per row of the opcode table (spec/42_external_access.md R492 to
R522, R497). -/
namespace Sys2Proof.Machine

open Sys2Proof

/-- `EXT PMEVCNTR<n>_EL0` (42_external R492). -/
def execExtPmevcntrn (n : BitVec 5) (op : ExtOp) (mm : Bool) (s : State) : Out :=
  if n.toNat < s.cfg.n.val then
    extPlain .core op mm (fun s => evcntAt s.pmu n.toNat) (fun v s => writeEvcnt n.toNat v s) s
  else reservedAccess op mm s

/-- `EXT PMCCNTR_EL0[31:0]` (42_external R493). -/
def execExtPmccntrLo (op : ExtOp) (mm : Bool) (s : State) : Out :=
  extPlain .core op mm (fun s => s.pmu.ccnt.setWidth 32) writeCcntLo s

/-- `EXT PMCCNTR_EL0[63:32]` (42_external R493). -/
def execExtPmccntrHi (op : ExtOp) (mm : Bool) (s : State) : Out :=
  extPlain .core op mm (fun s => s.pmu.ccnt.extractLsb' 32 32) writeCcntHi s

/-- `EXT PMPCSR[31:0]` (42_external R511; 13_external R251, R252): a read samples; the 64-bit read is the low word's
read followed by the high word's. Both offsets name one register. -/
def execExtPmpcsrLo (_alt : Bool) (op : PcsrOp) (mm : Bool) (s : State) : Out :=
  match op with
  | .read =>
    if s.cfg.pcSample then extAccess .coreOpen .read mm readPcsrLo (fun _ s => s) s else reservedAccess .read mm s
  | .write v =>
    if s.cfg.pcSample then extAccess .coreOpen (.write v) mm readPcsrLo (fun _ s => s) s
    else reservedAccess (.write v) mm s
  | .read64 =>
    if s.cfg.pcSample && s.cfg.pmpcsr64 then
      match extAccess .coreOpen .read mm readPcsrLo (fun _ s => s) s with
      | .next s' =>
        match s'.resp with
        | .data lo => .next (respond (.data64 (s'.pmu.pcsr.extractLsb' 32 32 ++ lo)) s')
        | _ => .next s'
      | o => o
    else .refused .undefinedAccessSize

/-- `EXT PMPCSR[63:32]` (42_external R511). Both offsets name one register. -/
def execExtPmpcsrHi (_alt : Bool) (op : ExtOp) (mm : Bool) (s : State) : Out :=
  if s.cfg.pcSample then extReadOnly .coreOpen op mm (fun s => s.pmu.pcsr.extractLsb' 32 32) s else reservedAccess op mm s

/-- `EXT PMCID1SR` (42_external R512). Both offsets name one register. -/
def execExtPmcid1sr (_alt : Bool) (op : ExtOp) (mm : Bool) (s : State) : Out :=
  if s.cfg.pcSample then extReadOnly .coreOpen op mm (fun s => s.pmu.cid1) s else reservedAccess op mm s

/-- `EXT PMVIDSR` (42_external R512). -/
def execExtPmvidsr (op : ExtOp) (mm : Bool) (s : State) : Out :=
  if s.cfg.pcSample then extReadOnly .coreOpen op mm pmvidsr s else reservedAccess op mm s

/-- `EXT PMCID2SR` (42_external R512). -/
def execExtPmcid2sr (op : ExtOp) (mm : Bool) (s : State) : Out :=
  if s.cfg.pcSample then extReadOnly .coreOpen op mm (fun s => s.pmu.cid2) s else reservedAccess op mm s

/-- `EXT PMEVTYPER<n>_EL0` (42_external R494). -/
def execExtPmevtypern (n : BitVec 5) (op : ExtOp) (mm : Bool) (s : State) : Out :=
  if n.toNat < s.cfg.n.val then
    extAccess .core op mm (fun _ s => (evtypeValue s n.toNat, bump 1 s)) (fun v s => writeEvtype n.toNat v s) s
  else reservedAccess op mm s

/-- `EXT PMCCFILTR_EL0` (42_external R494). -/
def execExtPmccfiltr (op : ExtOp) (mm : Bool) (s : State) : Out :=
  extPlain .core op mm (fun s => s.pmu.ccfilt) writeCcfilt s

/-- `EXT PMCNTENSET_EL0` (42_external R500). -/
def execExtPmcntenset (op : ExtOp) (mm : Bool) (s : State) : Out :=
  extPlain .core op mm (fun s => s.pmu.cnten &&& implMask s.cfg)
    (fun v s => setCnten (v &&& implMask s.cfg) s) s

/-- `EXT PMCNTENCLR_EL0` (42_external R501). -/
def execExtPmcntenclr (op : ExtOp) (mm : Bool) (s : State) : Out :=
  extPlain .core op mm (fun s => s.pmu.cnten &&& implMask s.cfg)
    (fun v s => clearCnten (v &&& implMask s.cfg) s) s

/-- `EXT PMINTENSET_EL1` (42_external R502). -/
def execExtPmintenset (op : ExtOp) (mm : Bool) (s : State) : Out :=
  extPlain .core op mm (fun s => s.pmu.inten &&& implMask s.cfg)
    (fun v s => setInten (v &&& implMask s.cfg) s) s

/-- `EXT PMINTENCLR_EL1` (42_external R503). -/
def execExtPmintenclr (op : ExtOp) (mm : Bool) (s : State) : Out :=
  extPlain .core op mm (fun s => s.pmu.inten &&& implMask s.cfg)
    (fun v s => clearInten (v &&& implMask s.cfg) s) s

/-- `EXT PMOVSCLR_EL0` (42_external R504). -/
def execExtPmovsclr (op : ExtOp) (mm : Bool) (s : State) : Out :=
  extPlain .core op mm (fun s => s.pmu.ovs &&& implMask s.cfg)
    (fun v s => clearOvs (v &&& implMask s.cfg) s) s

/-- `EXT PMSWINC_EL0` (42_external R495). -/
def execExtPmswinc (op : ExtOp) (mm : Bool) (s : State) : Out :=
  if s.cfg.extSwinc == .absent then reservedAccess op mm s
  else extAccess .core op mm (fun _ s => unknownWord s) extSwinc s

/-- `EXT PMOVSSET_EL0` (42_external R505). -/
def execExtPmovsset (op : ExtOp) (mm : Bool) (s : State) : Out :=
  extPlain .core op mm (fun s => s.pmu.ovs &&& implMask s.cfg)
    (fun v s => setOvs (v &&& implMask s.cfg) s) s

/-- `EXT PMCFGR` (42_external R510). -/
def execExtPmcfgr (op : ExtOp) (mm : Bool) (s : State) : Out :=
  extReadOnly .core op mm (fun s => pmcfgr s.cfg) s

/-- `EXT PMCR_EL0` (42_external R506). -/
def execExtPmcr (op : ExtOp) (mm : Bool) (s : State) : Out :=
  extPlain .core op mm (fun s => (crBits s).setWidth 32) (fun v s => writePmcr v s.cfg.n.val s) s

/-- `EXT PMCEID0` (42_external R507). -/
def execExtPmceid0 (op : ExtOp) (mm : Bool) (s : State) : Out :=
  extReadOnly .core op mm (fun s => (ceid0 s.cfg).extractLsb' 0 32) s

/-- `EXT PMCEID1` (42_external R507). -/
def execExtPmceid1 (op : ExtOp) (mm : Bool) (s : State) : Out :=
  extReadOnly .core op mm (fun s => (ceid1 s.cfg).extractLsb' 0 32) s

/-- `EXT PMCEID2` (42_external R507). -/
def execExtPmceid2 (op : ExtOp) (mm : Bool) (s : State) : Out :=
  extReadOnly .core op mm (fun s => (ceid0 s.cfg).extractLsb' 32 32) s

/-- `EXT PMCEID3` (42_external R507). -/
def execExtPmceid3 (op : ExtOp) (mm : Bool) (s : State) : Out :=
  extReadOnly .core op mm (fun s => (ceid1 s.cfg).extractLsb' 32 32) s

/-- `EXT PMITCTRL` (42_external R513). -/
def execExtPmitctrl (op : ExtOp) (mm : Bool) (s : State) : Out :=
  match s.cfg.itctrlDomain with
  | .absent => reservedAccess op mm s
  | .core => extPlain .coreOpen op mm pmitctrl writePmitctrl s
  | .debug => extPlain .debug op mm pmitctrl writePmitctrl s

/-- `EXT PMDEVAFF0` (42_external R522). -/
def execExtPmdevaff0 (op : ExtOp) (mm : Bool) (s : State) : Out :=
  extReadOnly .debug op mm (fun s => (mpidr s.cfg).setWidth 32) s

/-- `EXT PMDEVAFF1` (42_external R522). -/
def execExtPmdevaff1 (op : ExtOp) (mm : Bool) (s : State) : Out :=
  extReadOnly .debug op mm (fun s => (mpidr s.cfg).extractLsb' 32 32) s

/-- `EXT PMLAR` (42_external R520): the one write the Software Lock does not block. -/
def execExtPmlar (op : ExtOp) (mm : Bool) (s : State) : Out :=
  match op with
  | .write v =>
    match missingView mm s with
    | some r => .refused r
    | none => .next (respond .ok (writePmlar mm v s))
  | .read => extAccess .debug .read mm (fun _ s => unknownWord s) (fun _ s => s) s

/-- `EXT PMLSR` (42_external R521). -/
def execExtPmlsr (op : ExtOp) (mm : Bool) (s : State) : Out :=
  extReadOnly .debug op mm (pmlsr mm) s

/-- `EXT PMAUTHSTATUS` (42_external R522). -/
def execExtPmauthstatus (op : ExtOp) (mm : Bool) (s : State) : Out :=
  extReadOnly .debug op mm (fun s => pmauthstatus s.cfg) s

/-- `EXT PMDEVARCH` (42_external R522). -/
def execExtPmdevarch (op : ExtOp) (mm : Bool) (s : State) : Out :=
  extReadOnly .debug op mm (fun _ => 0x47702A16) s

/-- `EXT PMDEVID` (42_external R522). -/
def execExtPmdevid (op : ExtOp) (mm : Bool) (s : State) : Out :=
  extReadOnly .debug op mm (fun s => BitVec.setWidth 32 (BitVec.ofBool s.cfg.pcSample)) s

/-- `EXT PMDEVTYPE` (42_external R522). -/
def execExtPmdevtype (op : ExtOp) (mm : Bool) (s : State) : Out :=
  extReadOnly .debug op mm (fun _ => 0x16) s

/-- `EXT PMPIDR4` (42_external R522). -/
def execExtPmpidr4 (op : ExtOp) (mm : Bool) (s : State) : Out :=
  extReadOnly .debug op mm (fun s => s.cfg.des2.setWidth 32) s

/-- `EXT PMPIDR0` (42_external R522). -/
def execExtPmpidr0 (op : ExtOp) (mm : Bool) (s : State) : Out :=
  extReadOnly .debug op mm (fun s => (s.cfg.part.setWidth 8).setWidth 32) s

/-- `EXT PMPIDR1` (42_external R522). -/
def execExtPmpidr1 (op : ExtOp) (mm : Bool) (s : State) : Out :=
  extReadOnly .debug op mm (fun s => 0#24 ++ s.cfg.des0 ++ s.cfg.part.extractLsb' 8 4) s

/-- `EXT PMPIDR2` (42_external R522). -/
def execExtPmpidr2 (op : ExtOp) (mm : Bool) (s : State) : Out :=
  extReadOnly .debug op mm (fun s => 0#24 ++ s.cfg.revision ++ 1#1 ++ s.cfg.des1) s

/-- `EXT PMPIDR3` (42_external R522). -/
def execExtPmpidr3 (op : ExtOp) (mm : Bool) (s : State) : Out :=
  extReadOnly .debug op mm (fun s => 0#24 ++ s.cfg.revand ++ s.cfg.cmod) s

/-- `EXT PMCIDR0` (42_external R522). -/
def execExtPmcidr0 (op : ExtOp) (mm : Bool) (s : State) : Out :=
  extReadOnly .debug op mm (fun _ => 0x0D) s

/-- `EXT PMCIDR1` (42_external R522). -/
def execExtPmcidr1 (op : ExtOp) (mm : Bool) (s : State) : Out :=
  extReadOnly .debug op mm (fun _ => 0x90) s

/-- `EXT PMCIDR2` (42_external R522). -/
def execExtPmcidr2 (op : ExtOp) (mm : Bool) (s : State) : Out :=
  extReadOnly .debug op mm (fun _ => 0x05) s

/-- `EXT PMCIDR3` (42_external R522). -/
def execExtPmcidr3 (op : ExtOp) (mm : Bool) (s : State) : Out :=
  extReadOnly .debug op mm (fun _ => 0xB1) s

/-- `EXT reserved offset` (42_external R497). -/
def execExtReserved (_off : BitVec 12) (op : ExtOp) (mm : Bool) (s : State) : Out :=
  reservedAccess op mm s

end Sys2Proof.Machine
end

