-- ==== Sys2Proof/Machine/Dispatch.lean ====
section
/-! DEFINITION. The meaning of every row of spec/opcode_table.json. -/
namespace Sys2Proof.Machine

open Sys2Proof

def exec (i : Instr) (s : State) : Host.Outcome State Fault Refusal :=
  match i with
  | .mrsPmcr t => Sys2Proof.Machine.execMrsPmcr t s
  | .msrPmcr t => Sys2Proof.Machine.execMsrPmcr t s
  | .mrsPmcntenset t => Sys2Proof.Machine.execMrsPmcntenset t s
  | .msrPmcntenset t => Sys2Proof.Machine.execMsrPmcntenset t s
  | .mrsPmcntenclr t => Sys2Proof.Machine.execMrsPmcntenclr t s
  | .msrPmcntenclr t => Sys2Proof.Machine.execMsrPmcntenclr t s
  | .mrsPmovsclr t => Sys2Proof.Machine.execMrsPmovsclr t s
  | .msrPmovsclr t => Sys2Proof.Machine.execMsrPmovsclr t s
  | .msrPmswinc t => Sys2Proof.Machine.execMsrPmswinc t s
  | .mrsPmselr t => Sys2Proof.Machine.execMrsPmselr t s
  | .msrPmselr t => Sys2Proof.Machine.execMsrPmselr t s
  | .mrsPmceid0 t => Sys2Proof.Machine.execMrsPmceid0 t s
  | .mrsPmceid1 t => Sys2Proof.Machine.execMrsPmceid1 t s
  | .mrsPmccntr t => Sys2Proof.Machine.execMrsPmccntr t s
  | .msrPmccntr t => Sys2Proof.Machine.execMsrPmccntr t s
  | .mrsPmxevtyper t => Sys2Proof.Machine.execMrsPmxevtyper t s
  | .msrPmxevtyper t => Sys2Proof.Machine.execMsrPmxevtyper t s
  | .mrsPmxevcntr t => Sys2Proof.Machine.execMrsPmxevcntr t s
  | .msrPmxevcntr t => Sys2Proof.Machine.execMsrPmxevcntr t s
  | .mrsPmuserenr t => Sys2Proof.Machine.execMrsPmuserenr t s
  | .msrPmuserenr t => Sys2Proof.Machine.execMsrPmuserenr t s
  | .mrsPmintenset t => Sys2Proof.Machine.execMrsPmintenset t s
  | .msrPmintenset t => Sys2Proof.Machine.execMsrPmintenset t s
  | .mrsPmintenclr t => Sys2Proof.Machine.execMrsPmintenclr t s
  | .msrPmintenclr t => Sys2Proof.Machine.execMsrPmintenclr t s
  | .mrsPmovsset t => Sys2Proof.Machine.execMrsPmovsset t s
  | .msrPmovsset t => Sys2Proof.Machine.execMsrPmovsset t s
  | .mrsPmccfiltr t => Sys2Proof.Machine.execMrsPmccfiltr t s
  | .msrPmccfiltr t => Sys2Proof.Machine.execMsrPmccfiltr t s
  | .mrsPmevcntrn n t => Sys2Proof.Machine.execMrsPmevcntrn n t s
  | .msrPmevcntrn n t => Sys2Proof.Machine.execMsrPmevcntrn n t s
  | .mrsPmevtypern n t => Sys2Proof.Machine.execMrsPmevtypern n t s
  | .msrPmevtypern n t => Sys2Proof.Machine.execMsrPmevtypern n t s
  | .mrcPmcr c t => Sys2Proof.Machine.execMrcPmcr c t s
  | .mcrPmcr c t => Sys2Proof.Machine.execMcrPmcr c t s
  | .mrcPmcntenset c t => Sys2Proof.Machine.execMrcPmcntenset c t s
  | .mcrPmcntenset c t => Sys2Proof.Machine.execMcrPmcntenset c t s
  | .mrcPmcntenclr c t => Sys2Proof.Machine.execMrcPmcntenclr c t s
  | .mcrPmcntenclr c t => Sys2Proof.Machine.execMcrPmcntenclr c t s
  | .mrcPmovsr c t => Sys2Proof.Machine.execMrcPmovsr c t s
  | .mcrPmovsr c t => Sys2Proof.Machine.execMcrPmovsr c t s
  | .mcrPmswinc c t => Sys2Proof.Machine.execMcrPmswinc c t s
  | .mrcPmselr c t => Sys2Proof.Machine.execMrcPmselr c t s
  | .mcrPmselr c t => Sys2Proof.Machine.execMcrPmselr c t s
  | .mrcPmceid0 c t => Sys2Proof.Machine.execMrcPmceid0 c t s
  | .mrcPmceid1 c t => Sys2Proof.Machine.execMrcPmceid1 c t s
  | .mrcPmccntr c t => Sys2Proof.Machine.execMrcPmccntr c t s
  | .mcrPmccntr c t => Sys2Proof.Machine.execMcrPmccntr c t s
  | .mrcPmxevtyper c t => Sys2Proof.Machine.execMrcPmxevtyper c t s
  | .mcrPmxevtyper c t => Sys2Proof.Machine.execMcrPmxevtyper c t s
  | .mrcPmxevcntr c t => Sys2Proof.Machine.execMrcPmxevcntr c t s
  | .mcrPmxevcntr c t => Sys2Proof.Machine.execMcrPmxevcntr c t s
  | .mrcPmuserenr c t => Sys2Proof.Machine.execMrcPmuserenr c t s
  | .mcrPmuserenr c t => Sys2Proof.Machine.execMcrPmuserenr c t s
  | .mrcPmintenset c t => Sys2Proof.Machine.execMrcPmintenset c t s
  | .mcrPmintenset c t => Sys2Proof.Machine.execMcrPmintenset c t s
  | .mrcPmintenclr c t => Sys2Proof.Machine.execMrcPmintenclr c t s
  | .mcrPmintenclr c t => Sys2Proof.Machine.execMcrPmintenclr c t s
  | .mrcPmovsset c t => Sys2Proof.Machine.execMrcPmovsset c t s
  | .mcrPmovsset c t => Sys2Proof.Machine.execMcrPmovsset c t s
  | .mrcPmceid2 c t => Sys2Proof.Machine.execMrcPmceid2 c t s
  | .mrcPmceid3 c t => Sys2Proof.Machine.execMrcPmceid3 c t s
  | .mrcPmccfiltr c t => Sys2Proof.Machine.execMrcPmccfiltr c t s
  | .mcrPmccfiltr c t => Sys2Proof.Machine.execMcrPmccfiltr c t s
  | .mrcPmevcntrn c n t => Sys2Proof.Machine.execMrcPmevcntrn c n t s
  | .mcrPmevcntrn c n t => Sys2Proof.Machine.execMcrPmevcntrn c n t s
  | .mrcPmevtypern c n t => Sys2Proof.Machine.execMrcPmevtypern c n t s
  | .mcrPmevtypern c n t => Sys2Proof.Machine.execMcrPmevtypern c n t s
  | .mrrcPmccntr c t t2 => Sys2Proof.Machine.execMrrcPmccntr c t t2 s
  | .mcrrPmccntr c t t2 => Sys2Proof.Machine.execMcrrPmccntr c t t2 s
  | .extPmevcntrn n op mm => Sys2Proof.Machine.execExtPmevcntrn n op mm s
  | .extPmccntrLo op mm => Sys2Proof.Machine.execExtPmccntrLo op mm s
  | .extPmccntrHi op mm => Sys2Proof.Machine.execExtPmccntrHi op mm s
  | .extPmpcsrLo alt op mm => Sys2Proof.Machine.execExtPmpcsrLo alt op mm s
  | .extPmpcsrHi alt op mm => Sys2Proof.Machine.execExtPmpcsrHi alt op mm s
  | .extPmcid1sr alt op mm => Sys2Proof.Machine.execExtPmcid1sr alt op mm s
  | .extPmvidsr op mm => Sys2Proof.Machine.execExtPmvidsr op mm s
  | .extPmcid2sr op mm => Sys2Proof.Machine.execExtPmcid2sr op mm s
  | .extPmevtypern n op mm => Sys2Proof.Machine.execExtPmevtypern n op mm s
  | .extPmccfiltr op mm => Sys2Proof.Machine.execExtPmccfiltr op mm s
  | .extPmcntenset op mm => Sys2Proof.Machine.execExtPmcntenset op mm s
  | .extPmcntenclr op mm => Sys2Proof.Machine.execExtPmcntenclr op mm s
  | .extPmintenset op mm => Sys2Proof.Machine.execExtPmintenset op mm s
  | .extPmintenclr op mm => Sys2Proof.Machine.execExtPmintenclr op mm s
  | .extPmovsclr op mm => Sys2Proof.Machine.execExtPmovsclr op mm s
  | .extPmswinc op mm => Sys2Proof.Machine.execExtPmswinc op mm s
  | .extPmovsset op mm => Sys2Proof.Machine.execExtPmovsset op mm s
  | .extPmcfgr op mm => Sys2Proof.Machine.execExtPmcfgr op mm s
  | .extPmcr op mm => Sys2Proof.Machine.execExtPmcr op mm s
  | .extPmceid0 op mm => Sys2Proof.Machine.execExtPmceid0 op mm s
  | .extPmceid1 op mm => Sys2Proof.Machine.execExtPmceid1 op mm s
  | .extPmceid2 op mm => Sys2Proof.Machine.execExtPmceid2 op mm s
  | .extPmceid3 op mm => Sys2Proof.Machine.execExtPmceid3 op mm s
  | .extPmitctrl op mm => Sys2Proof.Machine.execExtPmitctrl op mm s
  | .extPmdevaff0 op mm => Sys2Proof.Machine.execExtPmdevaff0 op mm s
  | .extPmdevaff1 op mm => Sys2Proof.Machine.execExtPmdevaff1 op mm s
  | .extPmlar op mm => Sys2Proof.Machine.execExtPmlar op mm s
  | .extPmlsr op mm => Sys2Proof.Machine.execExtPmlsr op mm s
  | .extPmauthstatus op mm => Sys2Proof.Machine.execExtPmauthstatus op mm s
  | .extPmdevarch op mm => Sys2Proof.Machine.execExtPmdevarch op mm s
  | .extPmdevid op mm => Sys2Proof.Machine.execExtPmdevid op mm s
  | .extPmdevtype op mm => Sys2Proof.Machine.execExtPmdevtype op mm s
  | .extPmpidr4 op mm => Sys2Proof.Machine.execExtPmpidr4 op mm s
  | .extPmpidr0 op mm => Sys2Proof.Machine.execExtPmpidr0 op mm s
  | .extPmpidr1 op mm => Sys2Proof.Machine.execExtPmpidr1 op mm s
  | .extPmpidr2 op mm => Sys2Proof.Machine.execExtPmpidr2 op mm s
  | .extPmpidr3 op mm => Sys2Proof.Machine.execExtPmpidr3 op mm s
  | .extPmcidr0 op mm => Sys2Proof.Machine.execExtPmcidr0 op mm s
  | .extPmcidr1 op mm => Sys2Proof.Machine.execExtPmcidr1 op mm s
  | .extPmcidr2 op mm => Sys2Proof.Machine.execExtPmcidr2 op mm s
  | .extPmcidr3 op mm => Sys2Proof.Machine.execExtPmcidr3 op mm s
  | .extReserved off op mm => Sys2Proof.Machine.execExtReserved off op mm s

end Sys2Proof.Machine
end

