-- ==== Sys2Proof/Machine/Reset.lean ====
section
/-! DEFINITION. The three resets, and power (spec/70_reset_and_hazards.md R650 to R654). Every UNKNOWN of R653 is a free
value; log 5, log 32, log 45. -/
namespace Sys2Proof.Machine

open Sys2Proof

/-- The highest implemented Exception level (70_reset R654). -/
def highestEL (c : Config) : EL := if c.haveEL3 then .el3 else if c.haveEL2 then .el2 else .el1

/-- The highest level can use the Execution state (70_reset R651). -/
def resetIntoFits (c : Config) (into : ExecState) : Bool :=
  match elExec c (highestEL c) with
  | .both => true
  | .aarch64Only => into == .aarch64
  | .aarch32Only => into == .aarch32

/-- A free bit and a free word. -/
def unkBit (s : State) (k : Nat) : Bool := (draw s k).getLsbD 0
def unkWord (s : State) (k : Nat) : W32 := (draw s k).setWidth 32

/-- N free words, the slots of counters that do not exist staying 0. -/
def unkSlots (s : State) (base : Nat) (mask : W32) : Vector W32 31 :=
  Vector.ofFn fun i => if i.val < s.cfg.n.val then unkWord s (base + i.val) &&& mask else 0

/-- The PMU part of WarmReset(into) (70_reset R653). SLK, IME and the PC-sample latches are not touched. -/
def warmPmu (into : ExecState) (s : State) : Pmu :=
  let a32 := into == .aarch32
  { s.pmu with
    cr :=
      { e := false
        dp := if a32 then false else unkBit s 0
        x := if a32 then false else unkBit s 1
        d := if a32 then false else unkBit s 2
        lc := if anyAArch32 s.cfg then unkBit s 3 else true }
    ccfilt := if a32 then 0 else unkWord s 4 &&& filterMask s.cfg
    useren := if a32 then ⟨false, false, false, false⟩ else ⟨unkBit s 5, unkBit s 6, unkBit s 7, unkBit s 8⟩
    evcnt := unkSlots s 100 0xFFFFFFFF
    evtype := unkSlots s 140 (typeMask s.cfg)
    ccnt := draw s 9
    div64 := (draw s 10).setWidth 6
    cnten := unkWord s 11 &&& implMask s.cfg
    inten := unkWord s 12 &&& implMask s.cfg
    ovs := unkWord s 13 &&& implMask s.cfg
    sel := (draw s 14).setWidth 5 }

/-- The context registers of WarmReset(into) (12_context R167, R170 to R184, R192; log 3). OSLK, CORENPDRQ and SPMAD are
not touched. -/
def warmCtl (into : ExecState) (s : State) : Ctl :=
  let a32 := into == .aarch32
  let free2 : W32 := if a32 then 0x00007080 else 0x00007FE0
  let free3 : W32 := if a32 then 0x00013640 else 0x0011F640
  { s.ctl with
    mdcr2 := (unkWord s 15 &&& free2) ||| BitVec.ofNat 32 s.cfg.n.val
    mdcr3 := unkWord s 16 &&& free3
    sder := if a32 then 0 else unkWord s 17 &&& sderMask
    hstr := if a32 then 0 else unkWord s 18 &&& hstrMask
    hcr := draw s 19
    scr := unkWord s 20 &&& ~~~1#32
    dlk := if a32 then unkBit s 21 else false }

/-- The process state after a reset: the highest level at its reset vector; the AArch32 mode is Supervisor, or Hyp when
that level is EL2 (PRESUMED), the rest free (70_reset R654; log 45). -/
def resetProc (into : ExecState) (s : State) : Proc where
  el := highestEL s.cfg
  mode := if highestEL s.cfg == .el2 then .hyp else .supervisor
  t32 := into == .aarch32 && unkBit s 22
  itCond := (draw s 23).setWidth 4
  flagN := unkBit s 24
  flagZ := unkBit s 25
  flagC := unkBit s 26
  flagV := unkBit s 27

/-- A level below the highest uses AArch32 after a reset into AArch32, or when it can use nothing else. -/
def resetAa32 (into : ExecState) (c : Config) (el : EL) : Bool :=
  into == .aarch32 || elExec c el == .aarch32Only

/-- The PE after a reset: the general registers and the exception registers are free (log 45); ESR_EL2 is RES0 without EL2
(60_exceptions R593). -/
def resetPe (into : ExecState) (s : State) : Pe where
  x := Vector.ofFn fun i => draw s (200 + i.val)
  r := Vector.ofFn fun i => unkWord s (240 + i.val)
  pc := if into == .aarch32 then s.cfg.resetVector32.setWidth 64 else s.cfg.resetVector64
  ps := resetProc into s
  aa32El0 := resetAa32 into s.cfg .el0
  aa32El1 := resetAa32 into s.cfg .el1
  aa32El2 := resetAa32 into s.cfg .el2
  aa32El3 := resetAa32 into s.cfg .el3
  esr1 := unkWord s 28
  esr2 := if s.cfg.haveEL2 then unkWord s 29 else 0
  esr3 := unkWord s 30
  elr1 := draw s 31
  elr2 := draw s 32
  elr3 := draw s 33
  lrUnd := unkWord s 34
  spsr1 := s.pe.spsr1
  spsr2 := s.pe.spsr2
  spsr3 := s.pe.spsr3
  spsrUnd := s.pe.spsrUnd
  vbar1 := draw s 35
  vbar2 := draw s 36
  vbar3 := draw s 37

/-- WarmReset(into); the lower levels take the Execution states the reset values of the RW bits give them (60_exceptions
R642; log 51). -/
def warmReset (into : ExecState) (s : State) : State :=
  bump 300 (settleExec { s with
    pmu := warmPmu into s
    ctl := warmCtl into s
    pe := resetPe into s
    env := { s.env with retired := false }
    exc := none })

/-- The part of ColdReset(into) beside the Warm reset (70_reset R653); RES0 bits are not drawn. -/
def coldPart (s : State) : State :=
  bump 10 { s with
    pmu := { s.pmu with
      pcsr := draw s 0 &&& (pcsrHiMask ++ 0xFFFFFFFF#32)
      cid1 := unkWord s 1
      cid2 := if s.cfg.haveEL2 then unkWord s 2 else 0
      vid := (draw s 3).setWidth 16 &&& vidMask s.cfg
      ime := if s.cfg.itctrlDomain == .core then false else s.pmu.ime }
    ctl := { s.ctl with oslk := true, corenpdrq := unkBit s 4, spmad := false } }

/-- ColdReset(into). -/
def coldReset (into : ExecState) (s : State) : State := coldPart (warmReset into s)

/-- ExternalDebugReset(). -/
def externalDebugReset (s : State) : State :=
  { s with pmu := { s.pmu with
      slk := if s.cfg.softwareLock then true else s.pmu.slk
      ime := if s.cfg.itctrlDomain == .debug then false else s.pmu.ime } }

/-- A Warm or Cold reset, into an Execution state the highest level can use. -/
def resetInto (into : ExecState) (f : State → State) (s : State) : Out :=
  if resetIntoFits s.cfg into then .next (f s) else .refused .impossibleProcessState

/-- IsCorePowered going false and true (70_reset R652; 92 D19). The input is the power of the Core domain itself, so it is
honoured whatever CORENPDRQ is: with CORENPDRQ = 1 the system is to give none, and whether it can is not in the sources
(12_context R193; DESIGN CHOICE, log 32). -/
def powerDown (s : State) : State := { s with env := { s.env with powered := false } }
def powerUp (kind : PowerKind) (s : State) : Out :=
  let t := { s with env := { s.env with powered := true } }
  match kind with
  | .retained => .next t
  | .lost into => resetInto into (coldReset into) t

end Sys2Proof.Machine
end

