-- ==== Sys2Proof/Machine/Run.lean ====
section
/-! DEFINITION. One event of the total order of spec/20_memory.md R300: the fetch and execution of a PE instruction, an
external access, a counting step, a reset, or a move of the environment (log 6). -/
namespace Sys2Proof.Machine

open Sys2Proof

/-! ### Fetch (log 8) -/

/-- The four bytes at an address, or the address of the first that nothing has written. -/
def fetchBytes (m : List Host.Cell) (a : W64) : Except W64 (Byte × Byte × Byte × Byte) :=
  match memRead m a.toNat, memRead m (a + 1).toNat, memRead m (a + 2).toNat, memRead m (a + 3).toNat with
  | some b0, some b1, some b2, some b3 => .ok (b0, b1, b2, b3)
  | none, _, _, _ => .error a
  | _, none, _, _ => .error (a + 1)
  | _, _, none, _ => .error (a + 2)
  | _, _, _, none => .error (a + 3)

/-- The instruction word at the pc. -/
def fetchWord (s : State) : Except W64 W32 :=
  match fetchBytes s.mem s.pe.pc with
  | .ok (b0, b1, b2, b3) => .ok (wordOfBytes (currentIsa s) b0 b1 b2 b3)
  | .error a => .error a

/-! ### The PE -/

/-- A word that decodes to no instruction of the table: an unallocated register of one of the six formats is UNDEFINED
(30_encoding R339; in AArch32 only if its condition passes; log 44), a context register is accessed, anything else is
outside the spec. -/
def runOther (w : W32) (e : DecodeError) (s : State) : Out :=
  match e with
  | .unallocated .a64 _ => .next (takeException (undefinedExc s) s)
  | .unallocated _ c =>
    .next (if conditionPasses s c then takeException (undefinedExc s) s else retire s)
  | .context a => ctxAccess a s
  | _ => .refused (.outsideSpec w)

/-- Runs a word. -/
def runWord (w : W32) (s : State) : Out :=
  match decodeWord (currentIsa s) w with
  | .ok i => exec i s
  | .error e => runOther w e s

/-- The PE executes its next instruction. -/
def peStep (s : State) : Out :=
  if !s.env.powered then .refused .corePoweredOff
  else if s.env.inReset then .refused .heldInReset
  else if s.env.inDebug then .refused .debugState
  else
    match fetchWord s with
    | .ok w => runWord w s
    | .error a => .fault (.fetchUnwritten a.toNat)

/-! ### The external agent -/

/-- An external access (42_external R480). -/
def busStep (a : BusAccess) (s : State) : Out :=
  match decodeBus a with
  | .ok i => exec i s
  | .error _ => .refused .undefinedAccessSize

/-- A memory-mapped access at a physical address (20_memory R280; log 30). -/
def memMappedStep (addr : W64) (size : Nat) (data : Option W32) (s : State) : Out :=
  let off := addr - s.cfg.pmuBase
  if off.toNat < 4096 then busStep ⟨off.setWidth 12, size, data, true⟩ s else .refused .noMemMappedView

/-! ### The environment -/

/-- An input that leaves a state in which no PC sample is defined (13_external R251). -/
def leaving (was now : Bool) (e : Env) : Env := if was && !now then { e with retired := false } else e

/-- A counting step is delivered only while the core is powered (43_counting R565; 92 D27). -/
def whilePowered (f : State → State) (s : State) : State := if s.env.powered then f s else s

/-- An event step. SW_INCR is not delivered as one, and there is at least one occurrence (43_counting R540). -/
def eventInput (e : BitVec 16) (c : Ctx) (src : Source) (k : Nat) (s : State) : Out :=
  if s.env.powered && (e == 0 || k == 0) then .refused .notAnEventStep else .next (whilePowered (eventStep e c src k) s)

/-- An instruction that is out of scope is retired, where the PE can retire one (13_external R251; log 41). -/
def retireOther (s : State) : State :=
  if s.env.powered && !s.env.inReset && !s.env.inDebug then { s with env := { s.env with retired := true } } else s

/-- The PE does not execute with the core off, so it neither returns nor moves there (20_memory R287). -/
def whileOn (f : State → Out) (s : State) : Out := if s.env.powered then f s else .refused .corePoweredOff

/-- The rest of the PE moves to a process state that can occur (log 6). A move to a lower level is a return from the level it
leaves, whose syndrome becomes UNKNOWN (60_exceptions R621; log 12). A move to a higher level stands for an exception that is
out of scope: it leaves ESR, ELR and SPSR of that level as they were (DESIGN CHOICE, log 12). -/
def setProcess (p : Proc) (a0 a1 a2 a3 : Bool) (s : State) : Out :=
  let u := if p.el.level < (currentEL s).level then forgetSyndrome s else s
  let t := { u with pe := { u.pe with ps := p, aa32El0 := a0, aa32El1 := a1, aa32El2 := a2, aa32El3 := a3 } }
  if legalProcess t then .next (bump 2 (hsrUnknown t)) else .refused .impossibleProcessState

/-- VBAR_ELx is written by the rest of the PE. -/
def setVbar (target : EL) (v : W64) (p : Pe) : Pe :=
  match target with
  | .el0 => p
  | .el1 => { p with vbar1 := v }
  | .el2 => { p with vbar2 := v }
  | .el3 => { p with vbar3 := v }

/-- The inputs that integration mode does not stop: a reset may end it (13_external R225). -/
def survivesIntegration : Input → Bool
  | .warmReset _ => true
  | .coldReset _ => true
  | .externalDebugReset => true
  | .powerDown => true
  | .powerUp _ => true
  | _ => false

/-- One event. The debugger's writes of the external OSLAR_EL1 and of EDPRCR.CORENPDRQ and its reads of EDDFR act in every
state: whether core power, the OS Double Lock or another lock gates them is not in the sources (12_context R186, R191, R193;
DESIGN CHOICE, log 42). -/
def applyInput (i : Input) (s : State) : Out :=
  match i with
  | .pe => peStep s
  | .bus a => busStep a s
  | .memMapped addr size data => memMappedStep addr size data s
  | .cycle c => .next (whilePowered (cycleStep c) s)
  | .event e c src k => eventInput e c src k s
  | .warmReset into => resetInto into (warmReset into) s
  | .coldReset into => resetInto into (coldReset into) s
  | .externalDebugReset => .next (externalDebugReset s)
  | .powerDown => .next (powerDown s)
  | .powerUp kind => powerUp kind s
  | .setDebugState b => .next { s with env := leaving s.env.inDebug b { s.env with inDebug := b } }
  | .setResetState b => .next { s with env := leaving s.env.inReset b { s.env with inReset := b } }
  | .setPcSampleProhibited b =>
    .next { s with env := leaving s.env.pcProhibited b { s.env with pcProhibited := b } }
  | .setSample m => .next { s with env := { s.env with sample := m } }
  | .readEdprsr lock => .next (readEdprsr lock s)
  | .debuggerOslar v => .next { s with ctl := { s.ctl with oslk := v.getLsbD 0 } }
  | .debuggerCorenpdrq b => .next { s with ctl := { s.ctl with corenpdrq := b } }
  | .readEddfr high => .next (respond (.data (if high then eddfrValue.extractLsb' 32 32 else eddfrValue.setWidth 32)) s)
  | .exceptionReturn pc ps => whileOn (exceptionReturn pc ps) s
  | .retireInstruction => .next (retireOther s)
  | .setX t v => .next { s with pe := { s.pe with x := s.pe.x.set t.val v } }
  | .setR t v => .next { s with pe := { s.pe with r := s.pe.r.set t.val v } }
  | .setPc v => .next { s with pe := { s.pe with pc := v } }
  | .setProcess p a0 a1 a2 a3 => whileOn (setProcess p a0 a1 a2 a3) s
  | .setVbar target v => .next { s with pe := setVbar target v s.pe }
  | .setMemory addr v => .next { s with mem := memWrite s.mem addr.toNat v }

/-- The model is stuck in integration mode (13_external R225; 93 U14; log 37). -/
def stuckInIntegration (i : Input) (s : State) : Bool := s.pmu.ime && !survivesIntegration i

/-- The next event of the agenda, or the PE's next instruction when it is empty. -/
def nextInput (s : State) : Input × List Input :=
  match s.agenda with
  | [] => (.pe, [])
  | i :: rest => (i, rest)

/-- One event of the total order. -/
def runStep (s : State) : Out :=
  let i := (nextInput s).1
  if stuckInIntegration i s then .fault .integrationMode
  else applyInput i { s with agenda := (nextInput s).2 }

/-! ### Placing an instruction (log 7) -/

/-- The canonical AArch32 mode of an Exception level. -/
def canonicalMode : EL → Mode
  | .el0 => .user
  | .el1 => .supervisor
  | .el2 => .hyp
  | .el3 => .monitor

/-- The PE executes A64 at its level: that level and the ones above use AArch64. -/
def makeA64 (p : Pe) : Pe :=
  match p.ps.el with
  | .el0 => { p with aa32El0 := false, aa32El1 := false, aa32El2 := false, aa32El3 := false }
  | .el1 => { p with aa32El1 := false, aa32El2 := false, aa32El3 := false }
  | .el2 => { p with aa32El2 := false, aa32El3 := false }
  | .el3 => { p with aa32El3 := false }

/-- The PE executes A32 at its level: that level and the ones below use AArch32. -/
def makeA32 (p : Pe) : Pe :=
  let p := { p with ps := { p.ps with mode := canonicalMode p.ps.el, t32 := false }, aa32El0 := true }
  match p.ps.el with
  | .el0 => p
  | .el1 => { p with aa32El1 := true }
  | .el2 => { p with aa32El1 := true, aa32El2 := true }
  | .el3 => { p with aa32El1 := true, aa32El2 := true, aa32El3 := true }

/-- The state in which the PE's next instruction is the given word of the given instruction set, A64 or A32. -/
def placeWord (isa : Isa) (w : W32) (s : State) : State :=
  { s with
    mem := memWriteBytes s.mem s.pe.pc (bytesOfWord isa w)
    pe := match isa with
      | .a64 => makeA64 s.pe
      | _ => makeA32 s.pe
    env := { s.env with powered := true, inReset := false, inDebug := false }
    pmu := { s.pmu with ime := false }
    agenda := [] }

end Sys2Proof.Machine
end

