-- ==== Sys2Proof/Machine/Step.lean ====
section
/-! DEFINITION. The step, and the placing of an instruction for it. -/
namespace Sys2Proof.Machine

open Sys2Proof

/-- One event of the total order of spec/20_memory.md R300. -/
def step (s : State) : Host.Outcome State Fault Refusal := runStep s

/-- The state with an instruction of the opcode table placed where the step fetches next (log 7). -/
def State.withFetchWord (s : State) (nbits w : Nat) : State :=
  placeWord (tableIsa (tableWord nbits w)) (tableWord nbits w) s

end Sys2Proof.Machine
end

