-- ==== Sys2Proof/Safety.lean ====
section
/-! DEFINITION. The terms the claims are stated in: when an access is let through, what a completed access and a taken
exception leave, and the invariant of the machine. -/
namespace Sys2Proof.Machine

open Sys2Proof

/-! ### When an access is let through (40_aarch64 R360, R364 to R366; 41_aarch32 R424 to R428) -/

/-- Non-secure EL0 or EL1 on a PE with EL2: where the EL2 traps and HPMN apply. -/
def GuestLevel (s : State) : Prop :=
  s.cfg.haveEL2 = true ∧ isSecure s = false ∧ (currentEL s = .el0 ∨ currentEL s = .el1)

/-- No trap to EL2 or EL3 applies: MDCR_EL2.TPM and, for PMCR, MDCR_EL2.TPMCR are 0 where EL2 traps; MDCR_EL3.TPM is 0
where EL3 traps. -/
def NotTrapped (pmcr : Bool) (s : State) : Prop :=
  (GuestLevel s → s.ctl.mdcr2.getLsbD 6 = false ∧ (pmcr = true → s.ctl.mdcr2.getLsbD 5 = false)) ∧
  (s.cfg.haveEL3 = true → s.pe.aa32El3 = false → currentEL s ≠ .el3 → s.ctl.mdcr3.getLsbD 6 = false)

/-- No trap by HSTR.T9: T9 is 0 where EL2 traps, or has no effect there (41_aarch32 R426). -/
def T9Clear (s : State) : Prop :=
  GuestLevel s →
    s.ctl.hstr.getLsbD 9 = false ∨
      (s.pe.aa32El2 = false ∧ s.ctl.hcr.getLsbD 34 = true ∧ s.ctl.hcr.getLsbD 27 = true)

/-- An access from EL0 needs this condition on PMUSERENR (40_aarch64 R362). -/
def FromEl0 (s : State) (p : UserEn → Prop) : Prop := currentEL s = .el0 → p s.pmu.useren

/-! ### What a completed access leaves -/

/-- Everything outside the PE's registers, the PMU and the free-value counter is as before, but that the instruction is
retired and ended in no exception. -/
def SameElsewhere (s s' : State) : Prop :=
  s'.cfg = s.cfg ∧ s'.ctl = s.ctl ∧ s'.env = { s.env with retired := true } ∧ s'.agenda = s.agenda ∧
  s'.resp = s.resp ∧ s'.exc = none ∧ ∀ a, memRead s'.mem a = memRead s.mem a

/-- A completed MRS: X[t] holds v (X31 stays zero), every other X register and all the rest of the PE but the pc are as
before, and no PMU state changes. -/
def MrsDone (s s' : State) (t : BitVec 5) (v : W64) : Prop :=
  readX s' t = (if t = 31 then 0 else v) ∧ (∀ u, u ≠ t → readX s' u = readX s u) ∧
  s'.pe = { s.pe with x := s'.pe.x, pc := nextPc s } ∧ s'.pmu = s.pmu ∧ SameElsewhere s s'

/-- A completed MSR, MCR or MCRR: the PMU is p, and all the rest of the PE but the pc is as before. -/
def WriteDone (s s' : State) (p : Pmu) : Prop :=
  s'.pmu = p ∧ s'.pe = { s.pe with pc := nextPc s } ∧ SameElsewhere s s'

/-- A completed MRC: R[t] holds v. -/
def MrcDone (s s' : State) (t : BitVec 4) (v : W32) : Prop :=
  readR s' t = v ∧ (∀ u, u ≠ t → readR s' u = readR s u) ∧
  s'.pe = { s.pe with r := s'.pe.r, pc := nextPc s } ∧ s'.pmu = s.pmu ∧ SameElsewhere s s'

/-- What a taken exception leaves: the PMU, the context registers (but for SCR.NS on entry to Undefined mode at EL3, log 50),
the general registers, the instruction memory and the environment are as before, and the record of how the instruction ended
says which exception. -/
def Trapped (s s' : State) (x : Exc) : Prop :=
  s'.exc = some x ∧ s'.pmu = s.pmu ∧ s'.ctl = entryCtl x s ∧ s'.cfg = s.cfg ∧ s'.env = s.env ∧
  s'.pe.x = s.pe.x ∧ s'.pe.r = s.pe.r ∧ s'.agenda = s.agenda ∧ s'.resp = s.resp ∧
  ∀ a, memRead s'.mem a = memRead s.mem a

/-- A completed external access: the answer is r, the PMU is p, and the PE, the context registers, the environment and
the instruction memory are as before. -/
def ExtDone (s s' : State) (r : Response) (p : Pmu) : Prop :=
  s'.resp = r ∧ s'.pmu = p ∧ s'.cfg = s.cfg ∧ s'.ctl = s.ctl ∧ s'.pe = s.pe ∧ s'.env = s.env ∧
  s'.agenda = s.agenda ∧ s'.exc = s.exc ∧ ∀ a, memRead s'.mem a = memRead s.mem a

/-- The view of an external access is implemented. -/
def ViewExists (mm : Bool) (s : State) : Prop :=
  s.cfg.haveExternalPMU = true ∧ (mm = true → s.cfg.haveMemMapped = true)

/-- Off, DLK and OSLK do not hold (42_external R481). -/
def Unlocked (s : State) : Prop :=
  s.env.powered = true ∧ s.ctl.oslk = false ∧
  (s.ctl.dlk = false ∨ s.ctl.corenpdrq = true ∨ s.env.inDebug = true)

/-- AllowExternalPMUAccess() (42_external R482). -/
def Allowed (s : State) : Prop :=
  s.cfg.haveEL3 = false ∨ s.ctl.mdcr3.getLsbD 21 = false ∨ s.cfg.epmadOverride = true

/-- No gate column of a Core-domain register holds. -/
def GatesOpen (mm : Bool) (s : State) : Prop := ViewExists mm s ∧ Unlocked s ∧ Allowed s

/-- The SLK column does not hold: writes are performed (42_external R481). -/
def SlkOpen (mm : Bool) (s : State) : Prop := mm = false ∨ s.cfg.softwareLock = false ∨ s.pmu.slk = false

/-! ### Instructions that complete -/

/-- exec answers a next state that satisfies P. -/
def Ends (i : Instr) (s : State) (P : State → Prop) : Prop := ∃ s', exec i s = .next s' ∧ P s'

/-- The instruction completes as an MRS of v into X[t]. -/
def MrsRuns (i : Instr) (s : State) (t : BitVec 5) (v : W64) : Prop := Ends i s fun s' => MrsDone s s' t v

/-- The instruction completes as a write after which the PMU is p. -/
def WriteRuns (i : Instr) (s : State) (p : Pmu) : Prop := Ends i s fun s' => WriteDone s s' p

/-- The instruction completes as an MRC of v into R[t]. -/
def MrcRuns (i : Instr) (s : State) (t : BitVec 4) (v : W32) : Prop := Ends i s fun s' => MrcDone s s' t v

/-- The access completes with the answer r and leaves the PMU p. -/
def ExtRuns (i : Instr) (s : State) (r : Response) (p : Pmu) : Prop := Ends i s fun s' => ExtDone s s' r p

/-- What an AArch32 access needs to be let through: its condition passes and no EL2 or EL3 trap applies; `c9` for a
register that HSTR.T9 covers. -/
def Ready32 (s : State) (c : BitVec 4) (pmcr c9 : Bool) : Prop :=
  conditionPasses s c = true ∧ NotTrapped pmcr s ∧ (c9 = true → T9Clear s)

/-! ### What a write leaves in the PMU -/

/-- PMCR bits [6:0] as read: LC, DP, X, D, two zeros, E (40_aarch64 R369; 42_external R506). -/
def PmcrLow (s : State) : BitVec 7 :=
  BitVec.ofBool (!anyAArch32 s.cfg || s.pmu.cr.lc) ++ BitVec.ofBool ((s.cfg.haveEL3 || s.cfg.haveEL2) && s.pmu.cr.dp) ++
    BitVec.ofBool (s.cfg.haveEventBus && s.pmu.cr.x) ++ BitVec.ofBool (anyAArch32 s.cfg && s.pmu.cr.d) ++ 0#2 ++
    BitVec.ofBool s.pmu.cr.e

/-- p' is p after a write of v to PMCR that resets the counters below a limit (40_aarch64 R370): the bits the
implementation has are written, C clears the cycle counter and the prescaler phase, P the counters; the overflow flags
and everything else stay. -/
def PmcrWritten (c : Config) (limit : Nat) (v : W32) (p p' : Pmu) : Prop :=
  p' = { p with
    cr :=
      { lc := if anyAArch32 c then v.getLsbD 6 else p.cr.lc
        dp := if c.haveEL3 || c.haveEL2 then v.getLsbD 5 else p.cr.dp
        x := if c.haveEventBus then v.getLsbD 4 else p.cr.x
        d := if anyAArch32 c then v.getLsbD 3 else p.cr.d
        e := v.getLsbD 0 }
    ccnt := if v.getLsbD 2 then 0 else p.ccnt
    div64 := if v.getLsbD 2 then 0 else p.div64
    evcnt := p'.evcnt } ∧
  ∀ n, evcntAt p' n = if v.getLsbD 1 = true ∧ n < limit then 0 else evcntAt p n

/-- p' is p with k added to the counters that are hit, modulo 2^32, and an overflow flag set for each that carried
(43_counting R560, R561); everything else stays. -/
def Counted (hit : Nat → Prop) (k : Nat) (p p' : Pmu) : Prop :=
  p' = { p with evcnt := p'.evcnt, ovs := p'.ovs } ∧
  (∀ n, n < 31 → hit n → evcntAt p' n = evcntAt p n + BitVec.ofNat 32 k) ∧
  (∀ n, ¬ hit n → evcntAt p' n = evcntAt p n) ∧
  ∀ n, n < 32 → (p'.ovs.getLsbD n = true ↔ p.ovs.getLsbD n = true ∨ (hit n ∧ 2 ^ 32 ≤ (evcntAt p n).toNat + k))

/-- Counter n is one that HPMN reserves for EL2: n is not below a legal HPMN, and an illegal one reserves every counter
(12_context R162; log 17). -/
def InEl2Range (s : State) (n : Nat) : Prop :=
  s.cfg.haveEL2 = true ∧
    ¬ (n < (s.ctl.mdcr2.extractLsb' 0 5).toNat ∧ (s.ctl.mdcr2.extractLsb' 0 5).toNat ≤ s.cfg.n.val)

/-- Counter n is enabled: by its CNTEN bit, and by MDCR_EL2.HPME in the range that HPMN reserves for EL2, by PMCR.E below
it (43_counting R541). -/
def CounterEnabled (s : State) (n : Nat) : Prop :=
  s.pmu.cnten.getLsbD n = true ∧ (InEl2Range s n → s.ctl.mdcr2.getLsbD 7 = true) ∧
    (¬ InEl2Range s n → s.pmu.cr.e = true)

/-- The counters a software increment of v hits (43_counting R556). -/
def SwHit (s : State) (v : W32) (limit n : Nat) : Prop :=
  n < limit ∧ v.getLsbD n = true ∧ CounterEnabled s n ∧ evtCount (evtypeAt s.pmu n) = 0 ∧ (0 : BitVec 16) ∈ s.cfg.events

/-- What an event step asks of a counter beside the event number (43_counting R554). -/
def MayCount (s : State) (c : Ctx) (src : Source) (n : Nat) : Prop :=
  n < s.cfg.n.val ∧ CounterEnabled s n ∧ prohibitedFor s n c = false ∧
  (src = .own ∨ (s.cfg.isMultithreaded = true ∧ (evtypeAt s.pmu n).getLsbD 25 = true)) ∧
  filterPass s.cfg (evtypeAt s.pmu n) c = true

/-- The counters an event step hits (43_counting R554). -/
def EventHit (s : State) (e : BitVec 16) (c : Ctx) (src : Source) (n : Nat) : Prop :=
  MayCount s c src n ∧ e = evtCount (evtypeAt s.pmu n) ∧ e ∈ s.cfg.events

/-- The implementation leaves open what the event number counts and how it reads back: it is not supported, and the
parameter says so of it; never in 0 to 0x3F (11_pmu R130; log 26). -/
def OpenEvent (c : Config) (e : BitVec 16) : Prop := e ∈ c.openEvents ∧ e ∉ c.events ∧ 0x40 ≤ e.toNat

/-- p' is p with EVCNT[n] = v. -/
def EvcntSet (n : Nat) (v : W32) (p p' : Pmu) : Prop :=
  p' = { p with evcnt := p'.evcnt } ∧ evcntAt p' n = v ∧ ∀ m, m ≠ n → evcntAt p' m = evcntAt p m

/-- p' is p with EVTYPE[n] = v. -/
def EvtypeSet (n : Nat) (v : W32) (p p' : Pmu) : Prop :=
  p' = { p with evtype := p'.evtype } ∧ evtypeAt p' n = v ∧ ∀ m, m ≠ n → evtypeAt p' m = evtypeAt p m

/-! ### Values with an open part -/

/-- What a read of EVTYPE[n] may give: the stored value, its event number open where the implementation leaves the
read-back of an unsupported one open (11_pmu R130). -/
def TypeReads (s : State) (n : Nat) (v : W32) : Prop :=
  v.extractLsb' 16 16 = (evtypeAt s.pmu n).extractLsb' 16 16 ∧
  (¬ OpenEvent s.cfg (evtCount (evtypeAt s.pmu n)) → v = evtypeAt s.pmu n)

/-- What a read of PMSELR may give: SEL, open when SEL names no counter and is not 31 (40_aarch64 R378). -/
def SelReads (s : State) (v : BitVec 5) : Prop :=
  s.pmu.sel.toNat < s.cfg.n.val ∨ s.pmu.sel = 31 → v = s.pmu.sel

/-- What a read of PMCR may give in its N field: N, or HPMN for Non-secure EL0 and EL1 with EL2, open when HPMN is not
legal (40_aarch64 R369). -/
def PmcrNReads (s : State) (v : BitVec 5) : Prop :=
  (¬ GuestLevel s → v = BitVec.ofNat 5 s.cfg.n.val) ∧
  (GuestLevel s → hpmnLegal s = true → v = s.ctl.mdcr2.extractLsb' 0 5)

/-- The constants CEID0 (base 0) and CEID1 (base 0x20): one bit per implemented event (40_aarch64 R379). -/
def CeidWord (c : Config) (base : Nat) (v : W64) : Prop :=
  ∀ i, i < 32 →
    (v.getLsbD i = true ↔ BitVec.ofNat 16 (base + i) ∈ c.events) ∧
    (v.getLsbD (32 + i) = true ↔ BitVec.ofNat 16 (0x4000 + base + i) ∈ c.events)

/-- PMUSERENR as read. -/
def UserenWord (u : UserEn) : W32 :=
  0#28 ++ BitVec.ofBool u.er ++ BitVec.ofBool u.cr ++ BitVec.ofBool u.sw ++ BitVec.ofBool u.en

/-- USEREN after a write of v. -/
def userenOf (v : W32) : UserEn := ⟨v.getLsbD 3, v.getLsbD 2, v.getLsbD 1, v.getLsbD 0⟩

/-- The PC-sample registers after a read of PMPCSR[31:0] that answered lo (13_external R251 to R255): nothing else of the
PMU changes, and the reserved bits [60:56] hold 0; in Debug state or where sampling is prohibited lo is all ones; with an instruction to sample, lo and the
upper word are its address with its Security state and level, and the context IDs are its own, old or new while a write
of them is pending. -/
def PcLatched (s : State) (lo : W32) (p' : Pmu) : Prop :=
  let m := s.env.sample
  p' = { s.pmu with pcsr := p'.pcsr, cid1 := p'.cid1, cid2 := p'.cid2, vid := p'.vid } ∧
  p'.pcsr.setWidth 32 = lo ∧ p'.pcsr.extractLsb' 56 5 = 0 ∧
  (s.env.inDebug = true ∨ s.env.pcProhibited = true → lo = 0xFFFFFFFF) ∧
  (s.env.inDebug = false → s.env.pcProhibited = false → s.env.inReset = false → s.env.retired = true →
    lo = m.pc.setWidth 32 ∧
    p'.pcsr.extractLsb' 32 32 =
      BitVec.ofBool m.nonSecure ++ BitVec.ofNat 2 m.el.level ++ 0#5 ++ m.pc.extractLsb' 32 24 ∧
    (p'.cid1 = m.cid1 ∨ (m.cid1Pending = true ∧ p'.cid1 = m.cid1Old)) ∧
    (s.cfg.haveEL2 = true → s.pe.aa32El2 = false → m.nonSecure = true →
      p'.cid2 = m.cid2 ∨ (m.cid2Pending = true ∧ p'.cid2 = m.cid2Old)) ∧
    (s.cfg.haveEL2 = true → m.nonSecure = true → m.el ≠ .el2 →
      (m.el = .el0 → s.pe.aa32El2 = false → hcrE2h s = true → hcrTge s = false) →
      p'.vid = (if m.vmidWide then m.vmid else m.vmid &&& 0xFF) &&& (if s.cfg.vmid16 then 0xFFFF else 0xFF))) ∧
  (s.cfg.haveEL2 = false → p'.cid2 = 0 ∧ p'.vid = 0)

/-! ### Which accesses the gates concern -/

/-- The registers of the Debug power domain (42_external R483, R484). -/
def DebugDomain (c : Config) : ExtReg → Bool
  | .pmdevaff0 => true
  | .pmdevaff1 => true
  | .pmlar => true
  | .pmlsr => true
  | .pmauthstatus => true
  | .pmdevarch => true
  | .pmdevid => true
  | .pmdevtype => true
  | .pmpidr4 => true
  | .pmpidr0 => true
  | .pmpidr1 => true
  | .pmpidr2 => true
  | .pmpidr3 => true
  | .pmcidr0 => true
  | .pmcidr1 => true
  | .pmcidr2 => true
  | .pmcidr3 => true
  | .pmitctrl => c.itctrlDomain == .debug
  | _ => false

/-- The implemented registers of the Core power domain without an EPMAD column (42_external R483, R484). -/
def NoEpmadColumn (c : Config) : ExtReg → Bool
  | .pmpcsrLo _ => c.pcSample
  | .pmpcsrHi _ => c.pcSample
  | .pmcid1sr _ => c.pcSample
  | .pmvidsr => c.pcSample
  | .pmcid2sr => c.pcSample
  | .pmitctrl => c.itctrlDomain == .core
  | _ => false

/-- When an EL0 access is trapped by PMUSERENR, per class of register and direction (40_aarch64 R362; 41_aarch32 R422). -/
def El0Denied (u : UserEn) (wr : Bool) : El0Class → Prop
  | .enable => u.en = false
  | .selector => u.en = false ∧ u.er = false
  | .eventCount => u.en = false ∧ (wr = false → u.er = false)
  | .cycleCount => u.en = false ∧ (wr = false → u.cr = false)
  | .softInc => u.en = false ∧ u.sw = false
  | .never => False

/-! ### Instructions seen by their register -/

/-- i is the AArch32 access `a` of a register, with register numbers the spec admits: an MRC or MCR, or the MRRC or MCRR
of PMCCNTR. -/
def Names32 (i : Instr) (r : A32Reg) (wr : Bool) (c : BitVec 4) (a : Access32) : Prop :=
  (∃ t, i.form = .a32 r wr c t ∧ wfReg32 t = true ∧ a = .single r.sel wr c t) ∨
  (∃ t t2, i.form = .a32Wide wr c t t2 ∧ r = .pmccntr ∧ wfReg32 t = true ∧ wfReg32 t2 = true ∧
    (wr = false → t ≠ t2) ∧ a = .wide wr c t t2)

/-- The access names the counter idx, which is not accessible (40_aarch64 R382). -/
def OutOfRange64 (s : State) (r : A64Reg) (idx : Nat) : Prop :=
  accessibleN s ≤ idx ∧
    match r with
    | .pmevcntr n => n ≠ 31 ∧ idx = n.toNat
    | .pmevtyper n => n ≠ 31 ∧ idx = n.toNat
    | .pmxevcntr => idx = s.pmu.sel.toNat
    | .pmxevtyper => idx = s.pmu.sel.toNat ∧ s.pmu.sel ≠ 31
    | _ => False

/-- The same of an AArch32 access (41_aarch32 R462). -/
def OutOfRange32 (s : State) (r : A32Reg) (idx : Nat) : Prop :=
  accessibleN s ≤ idx ∧
    match r with
    | .pmevcntr n => n ≠ 31 ∧ idx = n.toNat
    | .pmevtyper n => n ≠ 31 ∧ idx = n.toNat
    | .pmxevcntr => idx = s.pmu.sel.toNat
    | .pmxevtyper => idx = s.pmu.sel.toNat ∧ s.pmu.sel ≠ 31
    | _ => False

/-- The trap to EL2 is offered for an inaccessible counter (40_aarch64 R383). -/
def TrapOffered (s : State) (idx : Nat) : Prop :=
  s.cfg.haveEL2 = true ∧ isSecure s = false ∧
  (currentEL s = .el1 ∨ (currentEL s = .el0 ∧ s.pmu.useren.en = true)) ∧ idx < s.cfg.n.val

/-- p' is p after one increment of the cycle counter, the overflow bit being 63 with LC and 31 without (43_counting
R563). -/
def CycleCounted (lc : Bool) (p p' : Pmu) : Prop :=
  p' = { p with ccnt := p.ccnt + 1, ovs := p'.ovs } ∧
  ∀ n, n < 32 → (p'.ovs.getLsbD n = true ↔ p.ovs.getLsbD n = true ∨
    (n = 31 ∧ p.ccnt.getLsbD (if lc then 63 else 31) = true ∧ (p.ccnt + 1).getLsbD (if lc then 63 else 31) = false))

/-- The state an external access sees when the PE's registers, PMUSERENR and MDCR_EL2 are replaced. -/
def Disguised (q : Pe) (u : UserEn) (d : W32) (s : State) : State :=
  { s with pe := q, pmu := { s.pmu with useren := u }, ctl := { s.ctl with mdcr2 := d } }

/-! ### The context registers -/

/-- The access to a context register completes as a read of v. -/
def CtxReads64 (r : Ctx64Reg) (t : BitVec 5) (s : State) (v : W64) : Prop :=
  ∃ s', ctxAccess (.a64 r false t) s = .next s' ∧ MrsDone s s' t v
def CtxReads32 (r : Ctx32Reg) (c t : BitVec 4) (s : State) (v : W32) : Prop :=
  ∃ s', ctxAccess (.a32 r false c t) s = .next s' ∧ MrcDone s s' t v

/-- The access completes as a write that leaves the context registers ctl and does nothing else. -/
def CtxWrites (a : CtxAccess) (s : State) (ctl : Ctl) : Prop := ctxAccess a s = .next (retire { s with ctl := ctl })

/-- The access ends in an exception. -/
def CtxTakes (a : CtxAccess) (s : State) (x : Exc) : Prop := ctxAccess a s = .next (takeException x s)

/-- The levels that can use both Execution states use those that SCR_EL3.RW (bit 10) and HCR_EL2.RW (bit 31) give them
(12_context R184; 60_exceptions R642; log 51). -/
def FollowsRw (s : State) : Prop :=
  let both (el : EL) : Prop := elExec s.cfg el = .both
  let el3Governs : Prop := s.cfg.haveEL3 = true ∧ s.pe.aa32El3 = false
  let hcrRw : Prop := s.ctl.hcr.getLsbD 31 = true ∨ (s.ctl.hcr.getLsbD 34 = true ∧ s.ctl.hcr.getLsbD 27 = true)
  (el3Governs → s.ctl.scr.getLsbD 10 = false →
    (s.cfg.haveEL2 = true → both .el2 → s.pe.aa32El2 = true) ∧ (both .el1 → s.pe.aa32El1 = true) ∧
    (both .el1 → both .el0 → s.pe.aa32El0 = true)) ∧
  (el3Governs → s.ctl.scr.getLsbD 10 = true →
    (s.cfg.haveEL2 = true → both .el2 → s.pe.aa32El2 = false) ∧
    (s.cfg.haveEL2 = false → both .el1 → s.pe.aa32El1 = false) ∧
    (both .el2 → both .el1 → s.ctl.scr.getLsbD 0 = false → s.pe.aa32El1 = false)) ∧
  (s.cfg.haveEL2 = true → s.pe.aa32El2 = false → (el3Governs → s.ctl.scr.getLsbD 10 = true) →
    (s.cfg.haveEL3 = true → s.ctl.scr.getLsbD 0 = true) → both .el1 → (s.pe.aa32El1 = true ↔ ¬ hcrRw))

/-- What a write of SCR_EL3, SCR, HCR_EL2 or HCR that stores ctl leaves: the pc moves on; the lower levels use the Execution
states the RW bits give; in a PL1 mode with EL3 using AArch32 the level is EL1 when SCR.NS = 1 and EL3 when it is 0; HSR is
unknown in a Non-secure mode other than Hyp mode; nothing else changes (60_exceptions R593, R640 to R642; log 51). -/
def ControlWritten (s s' : State) (ctl : Ctl) : Prop :=
  s' = { s with
    ctl := ctl
    pe := { s.pe with
      pc := nextPc s
      ps := { s.pe.ps with el := s'.pe.ps.el }
      aa32El0 := s'.pe.aa32El0
      aa32El1 := s'.pe.aa32El1
      aa32El2 := s'.pe.aa32El2
      esr2 := s'.pe.esr2 }
    env := { s.env with retired := true }
    exc := none
    freeCtr := s'.freeCtr } ∧
  FollowsRw s' ∧
  (currentEL s = .el3 → s.cfg.haveEL3 = true → s.pe.aa32El3 = true → pl1Mode s.pe.ps.mode = true →
    currentEL s' = if ctl.scr.getLsbD 0 then .el1 else .el3) ∧
  (s.pe.aa32El3 = false ∨ pl1Mode s.pe.ps.mode = false → currentEL s' = currentEL s) ∧
  (¬ (s.cfg.haveEL2 = true ∧ s'.pe.aa32El2 = true ∧ isSecure s' = false ∧ currentEL s' ≠ .el2) → s'.pe.esr2 = s.pe.esr2)

/-! ### The invariant -/

/-- A word has no bit outside a mask. -/
def Within (v mask : W32) : Prop := v &&& ~~~mask = 0

/-- The bits and counters that do not exist hold zero (10_state R34, R35; 00_scope R14). -/
def PmuInv (c : Config) (p : Pmu) : Prop :=
  Within p.cnten (implMask c) ∧ Within p.inten (implMask c) ∧ Within p.ovs (implMask c) ∧
  Within p.ccfilt (filterMask c) ∧ p.pcsr &&& 0x1F00000000000000 = 0 ∧
  (∀ n, n < c.n.val → Within (evtypeAt p n) (typeMask c)) ∧
  (∀ n, c.n.val ≤ n → evtypeAt p n = 0 ∧ evcntAt p n = 0)

/-- The RES0 bits of the context registers hold zero (12_context R160, R170, R175, R180). -/
def CtlInv (c : Config) (r : Ctl) : Prop :=
  Within r.mdcr2 mdcr2Mask ∧ Within r.mdcr3 (mdcr3Mask c) ∧ Within r.sder sderMask ∧ Within r.hstr hstrMask

/-- What every step keeps: a legal implementation, the registers within their bits, the memory in its canonical form, and
the Execution states of the lower levels as SCR_EL3.RW and HCR_EL2.RW have them (60_exceptions R642; log 51). -/
def StateInv (s : State) : Prop :=
  s.cfg.legal = true ∧ PmuInv s.cfg s.pmu ∧ CtlInv s.cfg s.ctl ∧ memWf s.mem = true ∧ rwAgrees s = true

end Sys2Proof.Machine
end

