-- ==== Sys2Proof/Certificates/Slice0/Obligations.lean ====
section
/-! DEFINITION. The statements for the provers. Each says which rule of spec/ it formalises; what rests on a choice of the
model says so. -/

open Sys2Proof Sys2Proof.Machine

/-! ### Encoding -/

/-- Every well-formed instruction is read back from its encoding, with every operand (30_encoding R320 to R338). -/
def Obligations.DecodeOfEncode : Prop :=
  ∀ i : Instr, WellFormed i = true → decode (encode i) = .ok i

/-- A word of A64 or A32, or a bus access, that decodes to an instruction is that instruction's encoding: no bit of it is
dropped (30_encoding R321, R331, R332, R338). -/
def Obligations.EncodeOfDecode : Prop :=
  (∀ (isa : Isa) (w : W32) (i : Instr), isa ≠ .t32 → decodeWord isa w = .ok i → encode i = .word isa w) ∧
  (∀ (a : BusAccess) (i : Instr), decodeBus a = .ok i → encode i = .bus a)

/-- Words and offsets written out from the encoding tables decode to the instructions they stand for (selectors and
offsets: 30_encoding R324, R325, R330, R335, R338). That a selector stands at these places of a 32-bit word is the model's
choice, log 9: R321, R331 and R332 are general knowledge. -/
def Obligations.WrittenOutWords : Prop :=
  decodeWord .a64 0xD53B9C03 = .ok (.mrsPmcr 3) ∧
  decodeWord .a64 0xD5189E24 = .ok (.msrPmintenset 4) ∧
  decodeWord .a64 0xD51BE843 = .ok (.msrPmevcntrn 2 3) ∧
  decodeWord .a64 0xD53BEFE1 = .ok (.mrsPmccfiltr 1) ∧
  decodeWord .a32 0xEE192F1D = .ok (.mrcPmccntr 14 2) ∧
  decodeWord .a32 0x1E0E1FFF = .ok (.mcrPmccfiltr 1 1) ∧
  decodeWord .a32 0xEE1E3F59 = .ok (.mrcPmevcntrn 14 10 3) ∧
  decodeWord .a32 0xEC432F09 = .ok (.mcrrPmccntr 14 2 3) ∧
  decodeBus ⟨0xC00, 4, some 5, true⟩ = .ok (.extPmcntenset (.write 5) true) ∧
  decodeBus ⟨0x220, 8, none, false⟩ = .ok (.extPmpcsrLo true .read64 false) ∧
  decodeBus ⟨0x404, 4, none, false⟩ = .ok (.extPmevtypern 1 .read false)

/-! ### The step -/

/-- When the PE moves (the agenda is empty or its head is the PE), is powered, in neither Reset nor Debug state, and the
PMU is not in integration mode, the step is exec of the instruction that the four bytes at the pc decode to (20_memory
R300). That an empty agenda means the PE's next instruction is the model's choice, log 6; so are the byte memory, its byte
order and the wrap of the four addresses, log 8, and the halfwords of T32, log 10. -/
def Obligations.StepRunsDecodedInstruction : Prop :=
  ∀ (s : State) (rest : List Input) (i : Instr) (b0 b1 b2 b3 : Byte),
    (s.agenda = [] ∧ rest = []) ∨ s.agenda = .pe :: rest →
    s.pmu.ime = false → s.env.powered = true → s.env.inReset = false → s.env.inDebug = false →
    memRead s.mem s.pe.pc.toNat = some b0 → memRead s.mem (s.pe.pc + 1).toNat = some b1 →
    memRead s.mem (s.pe.pc + 2).toNat = some b2 → memRead s.mem (s.pe.pc + 3).toNat = some b3 →
    decodeBytes (currentIsa s) [b0, b1, b2, b3] = .ok (i, []) →
    step s = exec i { s with agenda := rest }

/-- When an external access is next and the PMU is not in integration mode, the step is exec of the access it decodes to;
a memory-mapped access is the access at its offset from the block's base (20_memory R280). -/
def Obligations.StepRunsExternalAccess : Prop :=
  ∀ (s : State) (rest : List Input) (i : Instr), s.pmu.ime = false →
    (∀ a : BusAccess, s.agenda = .bus a :: rest → decodeBus a = .ok i → step s = exec i { s with agenda := rest }) ∧
    (∀ (addr : W64) (size : Nat) (data : Option W32), s.agenda = .memMapped addr size data :: rest →
      (addr - s.cfg.pmuBase).toNat < 4096 →
      decodeBus ⟨(addr - s.cfg.pmuBase).setWidth 12, size, data, true⟩ = .ok i →
      step s = exec i { s with agenda := rest })

/-- A word of one of the six formats that names no allocated register is UNDEFINED: the step takes that exception, in
AArch32 only if the instruction passes its condition, else it only advances the pc (30_encoding R327, R339). The treatment
of the words around the table is the model's choice, log 44; so are that a failed condition only advances the pc, log 21,
and the level that takes the exception, log 14. -/
def Obligations.UnallocatedWordIsUndefined : Prop :=
  ∀ (s : State) (w : W32) (isa : Isa) (c : BitVec 4),
    s.agenda = [] → s.pmu.ime = false → s.env.powered = true → s.env.inReset = false → s.env.inDebug = false →
    fetchWord s = .ok w → decodeWord (currentIsa s) w = .error (.unallocated isa c) →
    (isa = .a64 → step s = .next (takeException (undefinedExc s) s)) ∧
    (isa ≠ .a64 → conditionPasses s c = true → step s = .next (takeException (undefinedExc s) s)) ∧
    (isa ≠ .a64 → conditionPasses s c = false → step s = .next (retire s))

/-! ### What an access sees -/

/-- The accessible counters of a System register view, the masks of the views, bit by bit, and the bits that the filter
and type registers keep (11_pmu R95, R115 to R123, R128; 12_context R162; 42_external R490). -/
def Obligations.AccessibleCountersAndMasks : Prop :=
  ∀ s : State,
    (¬ GuestLevel s → accessibleN s = s.cfg.n.val) ∧
    (GuestLevel s → 1 ≤ (s.ctl.mdcr2.extractLsb' 0 5).toNat → (s.ctl.mdcr2.extractLsb' 0 5).toNat ≤ s.cfg.n.val →
      accessibleN s = (s.ctl.mdcr2.extractLsb' 0 5).toNat) ∧
    accessibleN s ≤ s.cfg.n.val ∧
    ∀ i, i < 32 →
      ((visibleMask s).getLsbD i = true ↔ i = 31 ∨ i < accessibleN s) ∧
      ((implMask s.cfg).getLsbD i = true ↔ i = 31 ∨ i < s.cfg.n.val) ∧
      ((filterMask s.cfg).getLsbD i = true ↔
        i = 31 ∨ i = 30 ∨ (s.cfg.haveEL3 = true ∧ (i = 29 ∨ i = 28 ∨ i = 26)) ∨ (s.cfg.haveEL2 = true ∧ i = 27)) ∧
      ((typeMask s.cfg).getLsbD i = true ↔
        (filterMask s.cfg).getLsbD i = true ∨ (s.cfg.isMultithreaded = true ∧ i = 25) ∨ i < 16)

/-! ### MRS and MSR -/

/-- The AArch64 mask registers: a read returns the visible bits, a write of the SET register sets and of the CLR register
clears the visible bits written as 1, and nothing else changes but X[t] and the pc. PMINTENSET_EL1 and PMINTENCLR_EL1 need
EL1 or above; the others at EL0 need PMUSERENR_EL0.EN (40_aarch64 R361, R362, R371, R373 to R377). That X31 reads as zero and
that a 32-bit register is read zero-extended and written from the low half is general knowledge (30_encoding R322, R323,
decisions D4 and D5; R368 rests on them), log 19. -/
def Obligations.MaskRegisters64 : Prop :=
  ∀ (s : State) (t : BitVec 5), NotTrapped false s →
    let m := visibleMask s
    let v : W32 := (readX s t).setWidth 32
    (FromEl0 s (fun u => u.en = true) →
      MrsRuns (.mrsPmcntenset t) s t ((s.pmu.cnten &&& m).setWidth 64) ∧
      MrsRuns (.mrsPmcntenclr t) s t ((s.pmu.cnten &&& m).setWidth 64) ∧
      MrsRuns (.mrsPmovsclr t) s t ((s.pmu.ovs &&& m).setWidth 64) ∧
      MrsRuns (.mrsPmovsset t) s t ((s.pmu.ovs &&& m).setWidth 64) ∧
      WriteRuns (.msrPmcntenset t) s { s.pmu with cnten := s.pmu.cnten ||| (v &&& m) } ∧
      WriteRuns (.msrPmcntenclr t) s { s.pmu with cnten := s.pmu.cnten &&& ~~~(v &&& m) } ∧
      WriteRuns (.msrPmovsclr t) s { s.pmu with ovs := s.pmu.ovs &&& ~~~(v &&& m) } ∧
      WriteRuns (.msrPmovsset t) s { s.pmu with ovs := s.pmu.ovs ||| (v &&& m) }) ∧
    (currentEL s ≠ .el0 →
      MrsRuns (.mrsPmintenset t) s t ((s.pmu.inten &&& m).setWidth 64) ∧
      MrsRuns (.mrsPmintenclr t) s t ((s.pmu.inten &&& m).setWidth 64) ∧
      WriteRuns (.msrPmintenset t) s { s.pmu with inten := s.pmu.inten ||| (v &&& m) } ∧
      WriteRuns (.msrPmintenclr t) s { s.pmu with inten := s.pmu.inten &&& ~~~(v &&& m) })

/-- MRS of PMCR_EL0: IMP, IDCODE, N, then LC, DP, X, D as far as the implementation has them, zeros for C and P, and E
(40_aarch64 R369). That X31 discards the value and that the read is zero-extended is general knowledge (30_encoding R322, R323,
decisions D4 and D5; R368 rests on them), log 19. -/
def Obligations.MrsOfPmcr : Prop :=
  ∀ (s : State) (t : BitVec 5), NotTrapped true s → FromEl0 s (fun u => u.en = true) →
    ∃ nr : BitVec 5, PmcrNReads s nr ∧
      MrsRuns (.mrsPmcr t) s t ((s.cfg.imp ++ s.cfg.idcode ++ nr ++ 0#4 ++ PmcrLow s).setWidth 64)

/-- MSR of PMCR_EL0 writes the control bits, clears the cycle counter with C and the accessible event counters with P, and
leaves the overflow flags and all else (40_aarch64 R370; that C also clears the prescaler phase is the spec's decision D9,
log 23). -/
def Obligations.MsrOfPmcr : Prop :=
  ∀ (s : State) (t : BitVec 5), NotTrapped true s → FromEl0 s (fun u => u.en = true) →
    ∃ p, PmcrWritten s.cfg (accessibleN s) ((readX s t).setWidth 32) s.pmu p ∧ WriteRuns (.msrPmcr t) s p

/-- MRS of PMSELR_EL0, PMCEID0_EL0, PMCEID1_EL0, PMCCNTR_EL0, PMUSERENR_EL0 and PMCCFILTR_EL0 (40_aarch64 R378, R379, R385,
R386, R391). -/
def Obligations.MrsOfSingleRegisters : Prop :=
  ∀ (s : State) (t : BitVec 5), NotTrapped false s →
    (FromEl0 s (fun u => u.en = true ∨ u.er = true) →
      ∃ v, SelReads s v ∧ MrsRuns (.mrsPmselr t) s t (v.setWidth 64)) ∧
    (FromEl0 s (fun u => u.en = true) →
      (∃ v, CeidWord s.cfg 0 v ∧ MrsRuns (.mrsPmceid0 t) s t v) ∧
      (∃ v, CeidWord s.cfg 0x20 v ∧ MrsRuns (.mrsPmceid1 t) s t v) ∧
      MrsRuns (.mrsPmccfiltr t) s t (s.pmu.ccfilt.setWidth 64)) ∧
    (FromEl0 s (fun u => u.en = true ∨ u.cr = true) → MrsRuns (.mrsPmccntr t) s t s.pmu.ccnt) ∧
    MrsRuns (.mrsPmuserenr t) s t ((UserenWord s.pmu.useren).setWidth 64)

/-- MSR of PMSELR_EL0, PMCCNTR_EL0, PMCCFILTR_EL0 and PMUSERENR_EL0 (40_aarch64 R378, R385, R386, R391). -/
def Obligations.MsrOfSingleRegisters : Prop :=
  ∀ (s : State) (t : BitVec 5), NotTrapped false s →
    (FromEl0 s (fun u => u.en = true ∨ u.er = true) →
      WriteRuns (.msrPmselr t) s { s.pmu with sel := (readX s t).setWidth 5 }) ∧
    (FromEl0 s (fun u => u.en = true) →
      WriteRuns (.msrPmccntr t) s { s.pmu with ccnt := readX s t } ∧
      WriteRuns (.msrPmccfiltr t) s { s.pmu with ccfilt := (readX s t).setWidth 32 &&& filterMask s.cfg }) ∧
    (currentEL s ≠ .el0 →
      WriteRuns (.msrPmuserenr t) s { s.pmu with useren := userenOf ((readX s t).setWidth 32) })

/-- MSR of PMSWINC_EL0 increments each accessible counter that is named, enabled (by CNTEN, and by HPME or E) and counts
SW_INCR, and sets the overflow flag of each that wraps (40_aarch64 R372; 43_counting R541, R556, R558, R560). That neither
prohibition nor filter is tested is decision D26 (R557), that event 0x0000 must be implemented is DEDUCED: log 36. -/
def Obligations.MsrOfPmswinc : Prop :=
  ∀ (s : State) (t : BitVec 5), NotTrapped false s → FromEl0 s (fun u => u.en = true ∨ u.sw = true) →
    ∃ p, Counted (SwHit s ((readX s t).setWidth 32) (accessibleN s)) 1 s.pmu p ∧ WriteRuns (.msrPmswinc t) s p

/-- MRS of an accessible event counter or type register, named directly or selected by SEL; SEL = 31 selects
PMCCFILTR_EL0 (40_aarch64 R387 to R390). -/
def Obligations.MrsOfCounters : Prop :=
  ∀ (s : State) (n t : BitVec 5), NotTrapped false s →
    (FromEl0 s (fun u => u.en = true ∨ u.er = true) →
      (n.toNat < accessibleN s → MrsRuns (.mrsPmevcntrn n t) s t ((evcntAt s.pmu n.toNat).setWidth 64)) ∧
      (s.pmu.sel.toNat < accessibleN s →
        MrsRuns (.mrsPmxevcntr t) s t ((evcntAt s.pmu s.pmu.sel.toNat).setWidth 64))) ∧
    (FromEl0 s (fun u => u.en = true) →
      (n.toNat < accessibleN s →
        ∃ v, TypeReads s n.toNat v ∧ MrsRuns (.mrsPmevtypern n t) s t (v.setWidth 64)) ∧
      (s.pmu.sel.toNat < accessibleN s →
        ∃ v, TypeReads s s.pmu.sel.toNat v ∧ MrsRuns (.mrsPmxevtyper t) s t (v.setWidth 64)) ∧
      (s.pmu.sel = 31 → MrsRuns (.mrsPmxevtyper t) s t (s.pmu.ccfilt.setWidth 64)))

/-- MSR of an accessible event counter or type register, named directly or selected by SEL; SEL = 31 selects
PMCCFILTR_EL0. No overflow flag changes (40_aarch64 R387 to R390). -/
def Obligations.MsrOfCounters : Prop :=
  ∀ (s : State) (n t : BitVec 5), NotTrapped false s → FromEl0 s (fun u => u.en = true) →
    let v : W32 := (readX s t).setWidth 32
    (n.toNat < accessibleN s →
      (∃ p, EvcntSet n.toNat v s.pmu p ∧ WriteRuns (.msrPmevcntrn n t) s p) ∧
      (∃ p, EvtypeSet n.toNat (v &&& typeMask s.cfg) s.pmu p ∧ WriteRuns (.msrPmevtypern n t) s p)) ∧
    (s.pmu.sel.toNat < accessibleN s →
      (∃ p, EvcntSet s.pmu.sel.toNat v s.pmu p ∧ WriteRuns (.msrPmxevcntr t) s p) ∧
      (∃ p, EvtypeSet s.pmu.sel.toNat (v &&& typeMask s.cfg) s.pmu p ∧ WriteRuns (.msrPmxevtyper t) s p)) ∧
    (s.pmu.sel = 31 → WriteRuns (.msrPmxevtyper t) s { s.pmu with ccfilt := v &&& filterMask s.cfg })

/-! ### MRC, MCR, MRRC, MCRR -/

/-- The AArch32 mask registers, in the same storage (41_aarch32 R431, R432, R434, R442 to R444). -/
def Obligations.MaskRegisters32 : Prop :=
  ∀ (s : State) (c t : BitVec 4), Ready32 s c false true → wfReg32 t = true →
    let m := visibleMask s
    let v := readR s t
    (FromEl0 s (fun u => u.en = true) →
      MrcRuns (.mrcPmcntenset c t) s t (s.pmu.cnten &&& m) ∧
      MrcRuns (.mrcPmcntenclr c t) s t (s.pmu.cnten &&& m) ∧
      MrcRuns (.mrcPmovsr c t) s t (s.pmu.ovs &&& m) ∧
      MrcRuns (.mrcPmovsset c t) s t (s.pmu.ovs &&& m) ∧
      WriteRuns (.mcrPmcntenset c t) s { s.pmu with cnten := s.pmu.cnten ||| (v &&& m) } ∧
      WriteRuns (.mcrPmcntenclr c t) s { s.pmu with cnten := s.pmu.cnten &&& ~~~(v &&& m) } ∧
      WriteRuns (.mcrPmovsr c t) s { s.pmu with ovs := s.pmu.ovs &&& ~~~(v &&& m) } ∧
      WriteRuns (.mcrPmovsset c t) s { s.pmu with ovs := s.pmu.ovs ||| (v &&& m) }) ∧
    (currentEL s ≠ .el0 →
      MrcRuns (.mrcPmintenset c t) s t (s.pmu.inten &&& m) ∧
      MrcRuns (.mrcPmintenclr c t) s t (s.pmu.inten &&& m) ∧
      WriteRuns (.mcrPmintenset c t) s { s.pmu with inten := s.pmu.inten ||| (v &&& m) } ∧
      WriteRuns (.mcrPmintenclr c t) s { s.pmu with inten := s.pmu.inten &&& ~~~(v &&& m) })

/-- MRC and MCR of PMCR read and write the same register as MRS and MSR of PMCR_EL0 (41_aarch32 R430; that C also clears the
prescaler phase is decision D9, log 23). -/
def Obligations.PmcrThroughAArch32 : Prop :=
  ∀ (s : State) (c t : BitVec 4), Ready32 s c true true → wfReg32 t = true → FromEl0 s (fun u => u.en = true) →
    (∃ nr : BitVec 5, PmcrNReads s nr ∧
      MrcRuns (.mrcPmcr c t) s t (s.cfg.imp ++ s.cfg.idcode ++ nr ++ 0#4 ++ PmcrLow s)) ∧
    ∃ p, PmcrWritten s.cfg (accessibleN s) (readR s t) s.pmu p ∧ WriteRuns (.mcrPmcr c t) s p

/-- MRC of PMSELR, PMCEID0 to PMCEID3, PMCCNTR (its low word) and PMUSERENR (41_aarch32 R435 to R437, R441), and of
PMCCFILTR without its M bit (R445, decision D11). -/
def Obligations.MrcOfSingleRegisters : Prop :=
  ∀ (s : State) (c t : BitVec 4), wfReg32 t = true →
    (Ready32 s c false true →
      (FromEl0 s (fun u => u.en = true ∨ u.er = true) →
        ∃ v, SelReads s v ∧ MrcRuns (.mrcPmselr c t) s t (v.setWidth 32)) ∧
      (FromEl0 s (fun u => u.en = true) →
        (∃ v, CeidWord s.cfg 0 v ∧ MrcRuns (.mrcPmceid0 c t) s t (v.setWidth 32) ∧
          MrcRuns (.mrcPmceid2 c t) s t (v.extractLsb' 32 32)) ∧
        (∃ v, CeidWord s.cfg 0x20 v ∧ MrcRuns (.mrcPmceid1 c t) s t (v.setWidth 32) ∧
          MrcRuns (.mrcPmceid3 c t) s t (v.extractLsb' 32 32))) ∧
      (FromEl0 s (fun u => u.en = true ∨ u.cr = true) →
        MrcRuns (.mrcPmccntr c t) s t (s.pmu.ccnt.setWidth 32)) ∧
      MrcRuns (.mrcPmuserenr c t) s t (UserenWord s.pmu.useren)) ∧
    (Ready32 s c false false → FromEl0 s (fun u => u.en = true) →
      MrcRuns (.mrcPmccfiltr c t) s t (s.pmu.ccfilt &&& 0xFBFFFFFF))

/-- MCR of PMSELR, PMCCNTR (its low word; the high word stays) and PMUSERENR (41_aarch32 R435, R437, R441), and of PMCCFILTR,
whose M bit stays (R445, decision D11). -/
def Obligations.McrOfSingleRegisters : Prop :=
  ∀ (s : State) (c t : BitVec 4), wfReg32 t = true →
    (Ready32 s c false true →
      (FromEl0 s (fun u => u.en = true ∨ u.er = true) →
        WriteRuns (.mcrPmselr c t) s { s.pmu with sel := (readR s t).setWidth 5 }) ∧
      (FromEl0 s (fun u => u.en = true) →
        WriteRuns (.mcrPmccntr c t) s { s.pmu with ccnt := s.pmu.ccnt.extractLsb' 32 32 ++ readR s t }) ∧
      (currentEL s ≠ .el0 →
        WriteRuns (.mcrPmuserenr c t) s { s.pmu with useren := userenOf (readR s t) })) ∧
    (Ready32 s c false false → FromEl0 s (fun u => u.en = true) →
      WriteRuns (.mcrPmccfiltr c t) s { s.pmu with
        ccfilt := (readR s t &&& filterMask s.cfg &&& 0xFBFFFFFF) ||| (s.pmu.ccfilt &&& 0x04000000) })

/-- MCR of PMSWINC increments each accessible counter that is named, enabled and counts SW_INCR, as MSR of PMSWINC_EL0 does
(41_aarch32 R433; 43_counting R556). That neither prohibition nor filter is tested is decision D26, that event 0x0000 must be
implemented is DEDUCED: log 36. -/
def Obligations.McrOfPmswinc : Prop :=
  ∀ (s : State) (c t : BitVec 4), Ready32 s c false true → wfReg32 t = true →
    FromEl0 s (fun u => u.en = true ∨ u.sw = true) →
    ∃ p, Counted (SwHit s (readR s t) (accessibleN s)) 1 s.pmu p ∧ WriteRuns (.mcrPmswinc c t) s p

/-- MRC of an accessible event counter or type register, direct or selected. The M bit of a type register is not shown
(41_aarch32 R438, R439, R446, R447; decision D11). PMEVCNTR<n> and PMEVTYPER<n> are not under HSTR.T9. -/
def Obligations.MrcOfCounters : Prop :=
  ∀ (s : State) (c : BitVec 4) (n : BitVec 5) (t : BitVec 4), wfReg32 t = true →
    (Ready32 s c false false → n.toNat < accessibleN s →
      (FromEl0 s (fun u => u.en = true ∨ u.er = true) →
        MrcRuns (.mrcPmevcntrn c n t) s t (evcntAt s.pmu n.toNat)) ∧
      (FromEl0 s (fun u => u.en = true) →
        ∃ v, TypeReads s n.toNat v ∧ MrcRuns (.mrcPmevtypern c n t) s t (v &&& 0xFBFFFFFF))) ∧
    (Ready32 s c false true →
      (s.pmu.sel.toNat < accessibleN s → FromEl0 s (fun u => u.en = true ∨ u.er = true) →
        MrcRuns (.mrcPmxevcntr c t) s t (evcntAt s.pmu s.pmu.sel.toNat)) ∧
      (s.pmu.sel.toNat < accessibleN s → FromEl0 s (fun u => u.en = true) →
        ∃ v, TypeReads s s.pmu.sel.toNat v ∧ MrcRuns (.mrcPmxevtyper c t) s t (v &&& 0xFBFFFFFF)) ∧
      (s.pmu.sel = 31 → FromEl0 s (fun u => u.en = true) →
        MrcRuns (.mrcPmxevtyper c t) s t (s.pmu.ccfilt &&& 0xFBFFFFFF)))

/-- MCR of an accessible event counter or type register, direct or selected. The M bit of a type register and every
overflow flag stay (41_aarch32 R438, R439, R446, R447; decision D11). -/
def Obligations.McrOfCounters : Prop :=
  ∀ (s : State) (c : BitVec 4) (n : BitVec 5) (t : BitVec 4), wfReg32 t = true →
    FromEl0 s (fun u => u.en = true) →
    let typed (k : Nat) : W32 :=
      (readR s t &&& typeMask s.cfg &&& 0xFBFFFFFF) ||| (evtypeAt s.pmu k &&& 0x04000000)
    (Ready32 s c false false → n.toNat < accessibleN s →
      (∃ p, EvcntSet n.toNat (readR s t) s.pmu p ∧ WriteRuns (.mcrPmevcntrn c n t) s p) ∧
      (∃ p, EvtypeSet n.toNat (typed n.toNat) s.pmu p ∧ WriteRuns (.mcrPmevtypern c n t) s p)) ∧
    (Ready32 s c false true →
      (s.pmu.sel.toNat < accessibleN s →
        (∃ p, EvcntSet s.pmu.sel.toNat (readR s t) s.pmu p ∧ WriteRuns (.mcrPmxevcntr c t) s p) ∧
        (∃ p, EvtypeSet s.pmu.sel.toNat (typed s.pmu.sel.toNat) s.pmu p ∧ WriteRuns (.mcrPmxevtyper c t) s p)) ∧
      (s.pmu.sel = 31 →
        WriteRuns (.mcrPmxevtyper c t) s { s.pmu with
          ccfilt := (readR s t &&& filterMask s.cfg &&& 0xFBFFFFFF) ||| (s.pmu.ccfilt &&& 0x04000000) }))

/-- MRRC and MCRR move the 64 bits of PMCCNTR in one step, Rt holding the low word (41_aarch32 R440; which register holds
the low word is general knowledge, log 20). -/
def Obligations.CycleCounterIn64Bits : Prop :=
  ∀ (s : State) (c t t2 : BitVec 4), Ready32 s c false true → wfReg32 t = true → wfReg32 t2 = true →
    (t ≠ t2 → FromEl0 s (fun u => u.en = true ∨ u.cr = true) →
      Ends (.mrrcPmccntr c t t2) s fun s' =>
        readR s' t = s.pmu.ccnt.setWidth 32 ∧ readR s' t2 = s.pmu.ccnt.extractLsb' 32 32 ∧
        (∀ u, u ≠ t → u ≠ t2 → readR s' u = readR s u) ∧
        s'.pe = { s.pe with r := s'.pe.r, pc := nextPc s } ∧ s'.pmu = s.pmu ∧ SameElsewhere s s') ∧
    (FromEl0 s (fun u => u.en = true) →
      WriteRuns (.mcrrPmccntr c t t2) s { s.pmu with ccnt := readR s t2 ++ readR s t })

/-- An AArch32 access whose condition fails does nothing but advance the pc, whatever its registers; one whose condition
passes is refused when it names R15, or one register twice in MRRC (30_encoding R334; 60_exceptions R605; decisions D4 and
D29, logs 20 and 21). -/
def Obligations.ConditionAndRegisterChecks32 : Prop :=
  ∀ (i : Instr) (s : State),
    (∀ r wr c t, i.form = .a32 r wr c t →
      (conditionPasses s c = false → exec i s = .next (retire s)) ∧
      (conditionPasses s c = true → t = 15 → exec i s = .refused .unpredictableRegister)) ∧
    (∀ wr c t t2, i.form = .a32Wide wr c t t2 →
      (conditionPasses s c = false → exec i s = .next (retire s)) ∧
      (conditionPasses s c = true → (t = 15 ∨ t2 = 15 ∨ (wr = false ∧ t = t2)) →
        exec i s = .refused .unpredictableRegister))

/-! ### The external view -/

/-- The external mask registers at their offsets: a read returns, and a write sets or clears, the bits of the N
implemented counters and the cycle counter (42_external R500 to R505). -/
def Obligations.ExternalMaskRegisters : Prop :=
  (ExtReg.pmcntenset.offset = 0xC00 ∧ ExtReg.pmcntenclr.offset = 0xC20 ∧ ExtReg.pmintenset.offset = 0xC40 ∧
    ExtReg.pmintenclr.offset = 0xC60 ∧ ExtReg.pmovsclr.offset = 0xC80 ∧ ExtReg.pmovsset.offset = 0xCC0) ∧
  ∀ (s : State) (mm : Bool), GatesOpen mm s →
    let m := implMask s.cfg
    (ExtRuns (.extPmcntenset .read mm) s (.data (s.pmu.cnten &&& m)) s.pmu ∧
      ExtRuns (.extPmcntenclr .read mm) s (.data (s.pmu.cnten &&& m)) s.pmu ∧
      ExtRuns (.extPmintenset .read mm) s (.data (s.pmu.inten &&& m)) s.pmu ∧
      ExtRuns (.extPmintenclr .read mm) s (.data (s.pmu.inten &&& m)) s.pmu ∧
      ExtRuns (.extPmovsclr .read mm) s (.data (s.pmu.ovs &&& m)) s.pmu ∧
      ExtRuns (.extPmovsset .read mm) s (.data (s.pmu.ovs &&& m)) s.pmu) ∧
    (SlkOpen mm s → ∀ v,
      ExtRuns (.extPmcntenset (.write v) mm) s .ok { s.pmu with cnten := s.pmu.cnten ||| (v &&& m) } ∧
      ExtRuns (.extPmcntenclr (.write v) mm) s .ok { s.pmu with cnten := s.pmu.cnten &&& ~~~(v &&& m) } ∧
      ExtRuns (.extPmintenset (.write v) mm) s .ok { s.pmu with inten := s.pmu.inten ||| (v &&& m) } ∧
      ExtRuns (.extPmintenclr (.write v) mm) s .ok { s.pmu with inten := s.pmu.inten &&& ~~~(v &&& m) } ∧
      ExtRuns (.extPmovsclr (.write v) mm) s .ok { s.pmu with ovs := s.pmu.ovs &&& ~~~(v &&& m) } ∧
      ExtRuns (.extPmovsset (.write v) mm) s .ok { s.pmu with ovs := s.pmu.ovs ||| (v &&& m) })

/-- The external PMCR_EL0: a read shows bits [6:0] only, a write does what MSR does with all N counters in the place of
the accessible ones (42_external R506; decision D9 for the prescaler phase, log 23). -/
def Obligations.ExternalPmcr : Prop :=
  ∀ (s : State) (mm : Bool), GatesOpen mm s →
    ExtRuns (.extPmcr .read mm) s (.data ((PmcrLow s).setWidth 32)) s.pmu ∧
    (SlkOpen mm s → ∀ v, ∃ p, PmcrWritten s.cfg s.cfg.n.val v s.pmu p ∧ ExtRuns (.extPmcr (.write v) mm) s .ok p)

/-- The external event counters below N, the word beside each of them a reserved one, and the two halves of the cycle
counter, each written without the other, at their offsets. No overflow flag and no prescaler phase changes (42_external R492,
R493). -/
def Obligations.ExternalCounters : Prop :=
  (ExtReg.pmccntrLo.offset = 0x0F8 ∧ ExtReg.pmccntrHi.offset = 0x0FC ∧
    ∀ n : BitVec 5, n ≠ 31 →
      (ExtReg.pmevcntr n).offset = 8 * n.setWidth 12 ∧ extRegOf (8 * n.setWidth 12) = .pmevcntr n ∧
      extRegOf (4 + 8 * n.setWidth 12) = .reserved (4 + 8 * n.setWidth 12)) ∧
  ∀ (s : State) (mm : Bool), GatesOpen mm s →
    (∀ n : BitVec 5, n.toNat < s.cfg.n.val →
      ExtRuns (.extPmevcntrn n .read mm) s (.data (evcntAt s.pmu n.toNat)) s.pmu ∧
      (SlkOpen mm s → ∀ v,
        ∃ p, EvcntSet n.toNat v s.pmu p ∧ ExtRuns (.extPmevcntrn n (.write v) mm) s .ok p)) ∧
    ExtRuns (.extPmccntrLo .read mm) s (.data (s.pmu.ccnt.setWidth 32)) s.pmu ∧
    ExtRuns (.extPmccntrHi .read mm) s (.data (s.pmu.ccnt.extractLsb' 32 32)) s.pmu ∧
    (SlkOpen mm s → ∀ v,
      ExtRuns (.extPmccntrLo (.write v) mm) s .ok { s.pmu with ccnt := s.pmu.ccnt.extractLsb' 32 32 ++ v } ∧
      ExtRuns (.extPmccntrHi (.write v) mm) s .ok { s.pmu with ccnt := v ++ s.pmu.ccnt.setWidth 32 })

/-- The external type registers below N and PMCCFILTR_EL0 read as stored, the M bit included, and a write stores the bits the
implementation has; PMCFGR and PMCEID0 to PMCEID3 read as the constants of the implementation, and a write of them is ignored
(42_external R494, R507, R510; 13_external R222). That bits the implementation lacks ignore writes is decision D2, log 18; what
an unsupported event number reads back is decision D13, log 26; that a write of a read-only register is ignored is general
knowledge, log 39. -/
def Obligations.ExternalConfiguration : Prop :=
  ∀ (s : State) (mm : Bool), GatesOpen mm s →
    (∀ n : BitVec 5, n.toNat < s.cfg.n.val →
      (∃ v, TypeReads s n.toNat v ∧ ExtRuns (.extPmevtypern n .read mm) s (.data v) s.pmu) ∧
      (SlkOpen mm s → ∀ v, ∃ p, EvtypeSet n.toNat (v &&& typeMask s.cfg) s.pmu p ∧
        ExtRuns (.extPmevtypern n (.write v) mm) s .ok p)) ∧
    ExtRuns (.extPmccfiltr .read mm) s (.data s.pmu.ccfilt) s.pmu ∧
    (SlkOpen mm s → ∀ v,
      ExtRuns (.extPmccfiltr (.write v) mm) s .ok { s.pmu with ccfilt := v &&& filterMask s.cfg }) ∧
    ExtRuns (.extPmcfgr .read mm) s
      (.data ((if s.cfg.haveEventBus then 0x10000 else 0) ||| (if anyAArch32 s.cfg then 0x8000 else 0) ||| 0x7F00 |||
        BitVec.ofNat 32 s.cfg.n.val)) s.pmu ∧
    (∃ v, CeidWord s.cfg 0 v ∧ ExtRuns (.extPmceid0 .read mm) s (.data (v.setWidth 32)) s.pmu ∧
      ExtRuns (.extPmceid2 .read mm) s (.data (v.extractLsb' 32 32)) s.pmu) ∧
    (∃ v, CeidWord s.cfg 0x20 v ∧ ExtRuns (.extPmceid1 .read mm) s (.data (v.setWidth 32)) s.pmu ∧
      ExtRuns (.extPmceid3 .read mm) s (.data (v.extractLsb' 32 32)) s.pmu) ∧
    ∀ v, ExtRuns (.extPmcfgr (.write v) mm) s .ok s.pmu ∧ ExtRuns (.extPmceid0 (.write v) mm) s .ok s.pmu ∧
      ExtRuns (.extPmceid1 (.write v) mm) s .ok s.pmu ∧ ExtRuns (.extPmceid2 (.write v) mm) s .ok s.pmu ∧
      ExtRuns (.extPmceid3 (.write v) mm) s .ok s.pmu

/-- The identification registers read as the constants of the implementation in every state of power and locks, and a
write of them is ignored (42_external R522; 13_external R232 to R248; that a write of a read-only register is ignored and
answers ok is general knowledge, R489, log 39). -/
def Obligations.ExternalIdentification : Prop :=
  ∀ (s : State) (mm : Bool), ViewExists mm s →
    let c := s.cfg
    let affinity : W64 := 0#24 ++ c.aff3 ++ 1#1 ++ BitVec.ofBool c.uniprocessor ++ 0#5 ++ BitVec.ofBool c.isMultithreaded ++
      c.aff2 ++ c.aff1 ++ c.aff0
    let snid : BitVec 2 :=
      if c.haveEL3 = false ∧ c.secureWhenNoEL3 = false then 0 else 1#1 ++ BitVec.ofBool c.secureNonInvasive
    let nsnid : BitVec 2 :=
      if c.haveEL3 = false ∧ c.secureWhenNoEL3 = true then 0 else 1#1 ++ BitVec.ofBool c.nonSecureNonInvasive
    let reads (i : ExtOp → Bool → Instr) (v : W32) : Prop :=
      ExtRuns (i .read mm) s (.data v) s.pmu ∧ ∀ w, ExtRuns (i (.write w) mm) s .ok s.pmu
    reads .extPmdevaff0 (affinity.setWidth 32) ∧ reads .extPmdevaff1 (affinity.extractLsb' 32 32) ∧
    reads .extPmauthstatus (0#24 ++ snid ++ 0#2 ++ nsnid ++ 0#2) ∧
    reads .extPmdevarch 0x47702A16 ∧ reads .extPmdevid (if c.pcSample then 1 else 0) ∧ reads .extPmdevtype 0x16 ∧
    reads .extPmpidr4 (0#28 ++ c.des2) ∧ reads .extPmpidr0 (0#24 ++ c.part.extractLsb' 0 8) ∧
    reads .extPmpidr1 (0#24 ++ c.des0 ++ c.part.extractLsb' 8 4) ∧ reads .extPmpidr2 (0#24 ++ c.revision ++ 1#1 ++ c.des1) ∧
    reads .extPmpidr3 (0#24 ++ c.revand ++ c.cmod) ∧
    reads .extPmcidr0 0x0D ∧ reads .extPmcidr1 0x90 ∧ reads .extPmcidr2 0x05 ∧ reads .extPmcidr3 0xB1

/-- The PC-sample registers: a read of PMPCSR[31:0] at either offset samples and latches unless the Software Lock is seen
locked, the 64-bit read combines the halves, the other reads give the latches, and writes are ignored; EPMAD does not gate
them (13_external R250 to R255; 42_external R511, R512). The value under the lock is decision D16, log 29; which instruction
is sampled, and when one has been retired, is the model's choice, log 41; that the writes are ignored and answer ok is
general knowledge, R489, log 39. -/
def Obligations.ExternalPcSample : Prop :=
  ∀ (s : State) (mm alt : Bool), s.cfg.pcSample = true → ViewExists mm s → Unlocked s →
    (SlkOpen mm s →
      (∃ lo p, PcLatched s lo p ∧ ExtRuns (.extPmpcsrLo alt .read mm) s (.data lo) p) ∧
      (s.cfg.pmpcsr64 = true →
        ∃ lo p, PcLatched s lo p ∧ ExtRuns (.extPmpcsrLo alt .read64 mm) s (.data64 p.pcsr) p)) ∧
    (¬ SlkOpen mm s →
      ExtRuns (.extPmpcsrLo alt .read mm) s (.data (s.pmu.pcsr.setWidth 32)) s.pmu ∧
      (s.cfg.pmpcsr64 = true → ExtRuns (.extPmpcsrLo alt .read64 mm) s (.data64 s.pmu.pcsr) s.pmu)) ∧
    ExtRuns (.extPmpcsrHi alt .read mm) s (.data (s.pmu.pcsr.extractLsb' 32 32)) s.pmu ∧
    ExtRuns (.extPmcid1sr alt .read mm) s (.data s.pmu.cid1) s.pmu ∧
    ExtRuns (.extPmvidsr .read mm) s (.data (0#16 ++ s.pmu.vid)) s.pmu ∧
    ExtRuns (.extPmcid2sr .read mm) s (.data s.pmu.cid2) s.pmu ∧
    ∀ v, ExtRuns (.extPmpcsrLo alt (.write v) mm) s .ok s.pmu ∧ ExtRuns (.extPmpcsrHi alt (.write v) mm) s .ok s.pmu ∧
      ExtRuns (.extPmcid1sr alt (.write v) mm) s .ok s.pmu ∧ ExtRuns (.extPmvidsr (.write v) mm) s .ok s.pmu ∧
      ExtRuns (.extPmcid2sr (.write v) mm) s .ok s.pmu

/-- The Software Lock: a memory-mapped write of PMLAR unlocks with the key and locks with any other value whatever SLK was,
any other write of it is ignored, a read of it gives some value and changes nothing; PMLSR reads SLK and 1 through the
memory-mapped view with the lock implemented and 0 otherwise, and ignores writes; nothing gates either (42_external R520,
R521; 13_external R228, R230). The read of PMLAR (R496) and the ignored write of PMLSR (R489) are general knowledge, log
39. -/
def Obligations.SoftwareLockRegisters : Prop :=
  (ExtReg.pmlar.offset = 0xFB0 ∧ ExtReg.pmlsr.offset = 0xFB4) ∧
  ∀ (s : State) (mm : Bool), ViewExists mm s →
    (∀ v, mm = true → s.cfg.softwareLock = true →
      ExtRuns (.extPmlar (.write v) mm) s .ok { s.pmu with slk := decide (v ≠ 0xC5ACCE55) }) ∧
    (∀ v, mm = false ∨ s.cfg.softwareLock = false → ExtRuns (.extPmlar (.write v) mm) s .ok s.pmu) ∧
    (∃ v, ExtRuns (.extPmlar .read mm) s (.data v) s.pmu) ∧
    (mm = true → s.cfg.softwareLock = true →
      ExtRuns (.extPmlsr .read mm) s (.data ((if s.pmu.slk then 2 else 0) ||| 1)) s.pmu) ∧
    (mm = false ∨ s.cfg.softwareLock = false → ExtRuns (.extPmlsr .read mm) s (.data 0) s.pmu) ∧
    ∀ v, ExtRuns (.extPmlsr (.write v) mm) s .ok s.pmu

/-- PMITCTRL in either power domain: a read shows IME in bit 0, a write stores it (42_external R484, R513). -/
def Obligations.ExternalItctrl : Prop :=
  ∀ (s : State) (mm : Bool), ViewExists mm s →
    (s.cfg.itctrlDomain = .debug ∨ (s.cfg.itctrlDomain = .core ∧ Unlocked s)) →
    ExtRuns (.extPmitctrl .read mm) s (.data (if s.pmu.ime then 1 else 0)) s.pmu ∧
    (SlkOpen mm s → ∀ v, ExtRuns (.extPmitctrl (.write v) mm) s .ok { s.pmu with ime := v.getLsbD 0 })

/-- The external PMSWINC_EL0: some of the bits written as 1 create an event, all of them or none where the implementation
says so, and each event increments its counter as a software increment does; a read gives some value (42_external R495,
R496; 43_counting R556). The read is general knowledge, log 39; that the increment tests neither prohibition nor filter is
decision D26, log 36. -/
def Obligations.ExternalPmswinc : Prop :=
  ∀ (s : State) (mm : Bool), GatesOpen mm s → s.cfg.extSwinc ≠ .absent →
    (∃ v, ExtRuns (.extPmswinc .read mm) s (.data v) s.pmu) ∧
    (SlkOpen mm s → ∀ v, ∃ w p, w &&& ~~~v = 0 ∧ (s.cfg.extSwinc = .always → w = v) ∧ (s.cfg.extSwinc = .never → w = 0) ∧
      Counted (SwHit s w s.cfg.n.val) 1 s.pmu p ∧ ExtRuns (.extPmswinc (.write v) mm) s .ok p)

/-- A reserved offset, the word of a counter that is not implemented and the word of an optional register that is not
implemented read as 0 and ignore writes, behind the gates of the Core power domain (42_external R497, decision D18, log
31). -/
def Obligations.ExternalReserved : Prop :=
  ∀ (s : State) (mm : Bool), GatesOpen mm s →
    let zero (i : ExtOp → Bool → Instr) : Prop :=
      ExtRuns (i .read mm) s (.data 0) s.pmu ∧ ∀ v, ExtRuns (i (.write v) mm) s .ok s.pmu
    (∀ off, zero (.extReserved off)) ∧
    (∀ n : BitVec 5, s.cfg.n.val ≤ n.toNat → zero (.extPmevcntrn n) ∧ zero (.extPmevtypern n)) ∧
    (s.cfg.itctrlDomain = .absent → zero .extPmitctrl) ∧
    (s.cfg.extSwinc = .absent → zero .extPmswinc) ∧
    (s.cfg.pcSample = false → ∀ alt,
      zero (.extPmpcsrHi alt) ∧ zero (.extPmcid1sr alt) ∧ zero .extPmvidsr ∧ zero .extPmcid2sr ∧
      ExtRuns (.extPmpcsrLo alt .read mm) s (.data 0) s.pmu ∧
      ∀ v, ExtRuns (.extPmpcsrLo alt (.write v) mm) s .ok s.pmu)

/-- The gates: an access to a register of the Core power domain answers Error and changes nothing with the core off, under
the OS Double Lock or under the OS Lock; where only EPMAD forbids it, it answers Error and records it in EDPRSR.SPMAD, for
a memory-mapped access as the implementation chooses (42_external R480, R481, R483, R486). The order of the columns is
general knowledge, log 39; that SPMAD stays where another column decides is decision D24, log 35; that reserved offsets
stand behind these gates is decision D18, log 31. -/
def Obligations.ExternalGates : Prop :=
  ∀ (i : Instr) (s : State) (r : ExtReg) (q : PcsrOp) (mm : Bool), i.form = .ext r q mm → ViewExists mm s →
    DebugDomain s.cfg r = false →
    (¬ Unlocked s → (q = .read64 → s.cfg.pcSample = true ∧ s.cfg.pmpcsr64 = true) →
      exec i s = .next { s with resp := .error }) ∧
    (Unlocked s → ¬ Allowed s → NoEpmadColumn s.cfg r = false → q ≠ .read64 →
      Ends i s fun s' =>
        s'.resp = .error ∧ s'.pmu = s.pmu ∧ s'.pe = s.pe ∧ s'.env = s.env ∧ s'.cfg = s.cfg ∧
        s'.ctl = { s.ctl with spmad := s'.ctl.spmad } ∧ (s.ctl.spmad = true → s'.ctl.spmad = true) ∧
        (mm = false ∨ s.cfg.spmadOnMemMapped = .set → s'.ctl.spmad = true) ∧
        (mm = true → s.cfg.spmadOnMemMapped = .unchanged → s'.ctl.spmad = s.ctl.spmad) ∧
        ∀ a, memRead s'.mem a = memRead s.mem a)

/-- Under the Software Lock a memory-mapped write that no gate stops is ignored, whatever the register, PMLAR excepted
(42_external R481, R489). -/
def Obligations.SoftwareLockIgnoresWrites : Prop :=
  ∀ (i : Instr) (s : State) (r : ExtReg) (v : W32) (mm : Bool), i.form = .ext r (.write v) mm → ViewExists mm s →
    r ≠ .pmlar → ¬ SlkOpen mm s →
    (DebugDomain s.cfg r = true ∨ (Unlocked s ∧ (Allowed s ∨ NoEpmadColumn s.cfg r = true))) →
    exec i s = .next { s with resp := .ok }

/-- An external access does the same whatever the PE's registers and Exception level, PMUSERENR and MDCR_EL2 are: a change
of them changes neither the answer nor the effect. Left out: the read that samples the PE's own pc; and for PMSWINC,
whose increments depend on which counters HPMN and HPME enable, the change of MDCR_EL2 (42_external R490). -/
def Obligations.ExternalViewIgnoresThePe : Prop :=
  ∀ (i : Instr) (s t : State) (r : ExtReg) (q : PcsrOp) (mm : Bool) (p : Pe) (u : UserEn) (d : W32),
    i.form = .ext r q mm → (∀ alt, r ≠ .pmpcsrLo alt) → (r = .pmswinc → d = s.ctl.mdcr2) →
    exec i s = .next t → exec i (Disguised p u d s) = .next (Disguised p u d t)

/-! ### Exceptions -/

/-- PMINTENSET and PMINTENCLR in both directions and a write of PMUSERENR are UNDEFINED at EL0, in both instruction sets
(40_aarch64 R361; 41_aarch32 R421); UNDEFINED at EL0 goes to EL1, or to EL2 with TGE in Non-secure state, and to the
AArch32 mode there when that level uses AArch32; UNDEFINED above EL0 goes to the same level, to Undefined mode or Hyp mode
when it uses AArch32 (60_exceptions R596, R597: general knowledge and decision D23, logs 14 and 15). The Security state and
the TGE condition are those of R597 and R641. -/
def Obligations.UndefinedAtEl0 : Prop :=
  ∀ s : State,
    (isSecure s = true ↔ (s.cfg.haveEL3 = true ∧
      (currentEL s = .el3 ∨ (s.ctl.scr.getLsbD 0 = false ∧ (currentEL s = .el0 ∨ currentEL s = .el1)))) ∨
      (s.cfg.haveEL3 = false ∧ s.cfg.secureWhenNoEL3 = true)) ∧
    (tgeReroutes s = true ↔ s.cfg.haveEL2 = true ∧ isSecure s = false ∧ s.ctl.hcr.getLsbD 27 = true) ∧
    (currentEL s = .el1 → s.pe.aa32El1 = false → undefinedExc s = .toAArch64 .el1 0x02000000) ∧
    (currentEL s = .el1 → s.pe.aa32El1 = true → undefinedExc s = .toUndefined) ∧
    (currentEL s = .el2 → s.pe.aa32El2 = false → undefinedExc s = .toAArch64 .el2 0x02000000) ∧
    (currentEL s = .el2 → s.pe.aa32El2 = true → undefinedExc s = .toHyp 0x02000000) ∧
    (currentEL s = .el3 → s.pe.aa32El3 = false → undefinedExc s = .toAArch64 .el3 0x02000000) ∧
    (currentEL s = .el3 → s.pe.aa32El3 = true → undefinedExc s = .toUndefined) ∧
    (currentEL s = .el0 →
    (∀ t, exec (.mrsPmintenset t) s = .next (takeException (undefinedExc s) s) ∧
      exec (.msrPmintenset t) s = .next (takeException (undefinedExc s) s) ∧
      exec (.mrsPmintenclr t) s = .next (takeException (undefinedExc s) s) ∧
      exec (.msrPmintenclr t) s = .next (takeException (undefinedExc s) s) ∧
      exec (.msrPmuserenr t) s = .next (takeException (undefinedExc s) s)) ∧
    (∀ c t, conditionPasses s c = true → wfReg32 t = true →
      exec (.mrcPmintenset c t) s = .next (takeException (undefinedExc s) s) ∧
      exec (.mcrPmintenset c t) s = .next (takeException (undefinedExc s) s) ∧
      exec (.mrcPmintenclr c t) s = .next (takeException (undefinedExc s) s) ∧
      exec (.mcrPmintenclr c t) s = .next (takeException (undefinedExc s) s) ∧
      exec (.mcrPmuserenr c t) s = .next (takeException (undefinedExc s) s)) ∧
    (tgeReroutes s = false → s.pe.aa32El1 = false → undefinedExc s = .toAArch64 .el1 0x02000000) ∧
    (tgeReroutes s = false → s.pe.aa32El1 = true → undefinedExc s = .toUndefined) ∧
    (tgeReroutes s = true → s.pe.aa32El2 = false → undefinedExc s = .toAArch64 .el2 0x02000000) ∧
    (tgeReroutes s = true → s.pe.aa32El2 = true → undefinedExc s = .toHyp 0x02000000))

/-- An access from EL0 that PMUSERENR denies takes the exception to EL1 (EL2 with TGE) with the syndrome of the
instruction, or to Undefined mode with none when EL1 uses AArch32 (40_aarch64 R362, R363; 41_aarch32 R422, R423;
60_exceptions R597, R598; the syndrome with TGE is decision D23, log 15). -/
def Obligations.El0TrapsTaken : Prop :=
  ∀ (i : Instr) (s : State), currentEL s = .el0 →
    (∀ r wr t, i.form = .a64 r wr t → allocated64 r wr .el0 = true → El0Denied s.pmu.useren wr (el0Class64 r) →
      exec i s =
        .next (takeException (.toAArch64 (if tgeReroutes s then .el2 else .el1) (syndrome64 r.sel wr t)) s)) ∧
    (∀ r wr c a, Names32 i r wr c a → conditionPasses s c = true → allocated32 r wr .el0 = true →
      El0Denied s.pmu.useren wr (el0Class32 r) →
      (tgeReroutes s = false → s.pe.aa32El1 = true → exec i s = .next (takeException .toUndefined s)) ∧
      (tgeReroutes s = false → s.pe.aa32El1 = false → exec i s = .next (takeException (.toAArch64 .el1 (esr32 s a)) s)) ∧
      (tgeReroutes s = true → s.pe.aa32El2 = true → exec i s = .next (takeException (.toHyp 0x02000000) s)) ∧
      (tgeReroutes s = true → s.pe.aa32El2 = false → exec i s = .next (takeException (.toAArch64 .el2 (esr32 s a)) s)))

/-- A Non-secure access from EL0 or EL1 that PMUSERENR lets through goes to EL2 with MDCR_EL2.TPM, with TPMCR for PMCR, and
in AArch32 with HSTR.T9 for the registers of c9; to Hyp mode when EL2 uses AArch32 (40_aarch64 R364, R365; 41_aarch32 R424
to R427). -/
def Obligations.El2TrapsTaken : Prop :=
  ∀ (i : Instr) (s : State), GuestLevel s →
    (∀ r wr t, i.form = .a64 r wr t → allocated64 r wr (currentEL s) = true →
      (currentEL s = .el0 → ¬ El0Denied s.pmu.useren wr (el0Class64 r)) →
      s.ctl.mdcr2.getLsbD 6 = true ∨ (r = .pmcr ∧ s.ctl.mdcr2.getLsbD 5 = true) →
      exec i s = .next (takeException (.toAArch64 .el2 (syndrome64 r.sel wr t)) s)) ∧
    (∀ r wr c a, Names32 i r wr c a → conditionPasses s c = true → allocated32 r wr (currentEL s) = true →
      (currentEL s = .el0 → ¬ El0Denied s.pmu.useren wr (el0Class32 r)) →
      s.ctl.mdcr2.getLsbD 6 = true ∨ (r = .pmcr ∧ s.ctl.mdcr2.getLsbD 5 = true) ∨ (usesC9 r = true ∧ ¬ T9Clear s) →
      (s.pe.aa32El2 = false → exec i s = .next (takeException (.toAArch64 .el2 (esr32 s a)) s)) ∧
      (s.pe.aa32El2 = true → exec i s = .next (takeException (.toHyp (hsr32 s a)) s)))

/-- With MDCR_EL3.TPM and EL3 using AArch64, an access from below EL3 that neither PMUSERENR nor EL2 takes goes to EL3
(40_aarch64 R366; 41_aarch32 R428). -/
def Obligations.El3TrapsTaken : Prop :=
  ∀ (i : Instr) (s : State), s.cfg.haveEL3 = true → s.pe.aa32El3 = false → currentEL s ≠ .el3 →
    s.ctl.mdcr3.getLsbD 6 = true → (GuestLevel s → s.ctl.mdcr2.getLsbD 6 = false) →
    (∀ r wr t, i.form = .a64 r wr t → allocated64 r wr (currentEL s) = true →
      (currentEL s = .el0 → ¬ El0Denied s.pmu.useren wr (el0Class64 r)) →
      (GuestLevel s → r = .pmcr → s.ctl.mdcr2.getLsbD 5 = false) →
      exec i s = .next (takeException (.toAArch64 .el3 (syndrome64 r.sel wr t)) s)) ∧
    (∀ r wr c a, Names32 i r wr c a → conditionPasses s c = true → allocated32 r wr (currentEL s) = true →
      (currentEL s = .el0 → ¬ El0Denied s.pmu.useren wr (el0Class32 r)) →
      (GuestLevel s → r = .pmcr → s.ctl.mdcr2.getLsbD 5 = false) → (usesC9 r = true → T9Clear s) →
      exec i s = .next (takeException (.toAArch64 .el3 (esr32 s a)) s))

/-- An AArch64 access to a counter that is not accessible, let through by the traps: with the spec's own choice it is
trapped to EL2 where that is offered and is UNDEFINED otherwise; an implementation may make it RAZ/WI or a NOP instead, and
an access through PMSELR_EL0 one of some accessible counter, or one with SEL = 31, which PMXEVTYPER_EL0 takes as
PMCCFILTR_EL0 and for which PMXEVCNTR_EL0 is UNDEFINED (40_aarch64 R380 to R383, decision D3, log 16). -/
def Obligations.InaccessibleCounter64 : Prop :=
  ∀ (i : Instr) (s : State) (r : A64Reg) (wr : Bool) (t : BitVec 5) (idx : Nat), i.form = .a64 r wr t →
    NotTrapped false s → (currentEL s = .el0 → ¬ El0Denied s.pmu.useren wr (el0Class64 r)) → OutOfRange64 s r idx →
    let w : W32 := (readX s t).setWidth 32
    let denied : Prop :=
      (TrapOffered s idx → exec i s = .next (takeException (.toAArch64 .el2 (syndrome64 r.sel wr t)) s)) ∧
      (¬ TrapOffered s idx → exec i s = .next (takeException (undefinedExc s) s))
    let direct : Prop := r ≠ .pmxevcntr ∧ r ≠ .pmxevtyper
    (s.cfg.cuCounterAccess = .undefinedOrTrap → denied) ∧
    (s.cfg.cuCounterAccess = .razWi →
      (wr = false → MrsRuns i s t 0) ∧ (wr = true → WriteRuns i s s.pmu)) ∧
    (s.cfg.cuCounterAccess = .nop → exec i s = .next (retire s)) ∧
    (s.cfg.cuCounterAccess = .selUnknown → direct ∨ accessibleN s = 0 → denied) ∧
    (s.cfg.cuCounterAccess = .selUnknown → 0 < accessibleN s →
      (r = .pmxevcntr → ∃ m, m < accessibleN s ∧
        (wr = false → MrsRuns i s t ((evcntAt s.pmu m).setWidth 64)) ∧
        (wr = true → ∃ p, EvcntSet m w s.pmu p ∧ WriteRuns i s p)) ∧
      (r = .pmxevtyper → ∃ m, m < accessibleN s ∧
        (wr = false → ∃ v, TypeReads s m v ∧ MrsRuns i s t (v.setWidth 64)) ∧
        (wr = true → ∃ p, EvtypeSet m (w &&& typeMask s.cfg) s.pmu p ∧ WriteRuns i s p))) ∧
    (s.cfg.cuCounterAccess = .sel31 → direct → denied) ∧
    (s.cfg.cuCounterAccess = .sel31 → r = .pmxevcntr → exec i s = .next (takeException (undefinedExc s) s)) ∧
    (s.cfg.cuCounterAccess = .sel31 → r = .pmxevtyper →
      (wr = false → MrsRuns i s t (s.pmu.ccfilt.setWidth 64)) ∧
      (wr = true → WriteRuns i s { s.pmu with ccfilt := w &&& filterMask s.cfg }))

/-- The same of an AArch32 access, with Hyp mode in the place of EL2 when EL2 uses AArch32 (41_aarch32 R460 to R463,
decision D3, log 16); the M bit of a type register is not shown and stays (decision D11, log 25). -/
def Obligations.InaccessibleCounter32 : Prop :=
  ∀ (i : Instr) (s : State) (r : A32Reg) (wr : Bool) (c t : BitVec 4) (idx : Nat), i.form = .a32 r wr c t →
    wfReg32 t = true → Ready32 s c false (usesC9 r) →
    (currentEL s = .el0 → ¬ El0Denied s.pmu.useren wr (el0Class32 r)) → OutOfRange32 s r idx →
    let w := readR s t
    let denied : Prop :=
      (TrapOffered s idx → s.pe.aa32El2 = false →
        exec i s = .next (takeException (.toAArch64 .el2 (esr32 s (.single r.sel wr c t))) s)) ∧
      (TrapOffered s idx → s.pe.aa32El2 = true →
        exec i s = .next (takeException (.toHyp (hsr32 s (.single r.sel wr c t))) s)) ∧
      (¬ TrapOffered s idx → exec i s = .next (takeException (undefinedExc s) s))
    let direct : Prop := r ≠ .pmxevcntr ∧ r ≠ .pmxevtyper
    (s.cfg.cuCounterAccess = .undefinedOrTrap → denied) ∧
    (s.cfg.cuCounterAccess = .razWi →
      (wr = false → MrcRuns i s t 0) ∧ (wr = true → WriteRuns i s s.pmu)) ∧
    (s.cfg.cuCounterAccess = .nop → exec i s = .next (retire s)) ∧
    (s.cfg.cuCounterAccess = .selUnknown → direct ∨ accessibleN s = 0 → denied) ∧
    (s.cfg.cuCounterAccess = .selUnknown → 0 < accessibleN s →
      (r = .pmxevcntr → ∃ m, m < accessibleN s ∧
        (wr = false → MrcRuns i s t (evcntAt s.pmu m)) ∧
        (wr = true → ∃ p, EvcntSet m w s.pmu p ∧ WriteRuns i s p)) ∧
      (r = .pmxevtyper → ∃ m, m < accessibleN s ∧
        (wr = false → ∃ v, TypeReads s m v ∧ MrcRuns i s t (v &&& 0xFBFFFFFF)) ∧
        (wr = true → ∃ p,
          EvtypeSet m ((w &&& typeMask s.cfg &&& 0xFBFFFFFF) ||| (evtypeAt s.pmu m &&& 0x04000000)) s.pmu p ∧
          WriteRuns i s p))) ∧
    (s.cfg.cuCounterAccess = .sel31 → direct → denied) ∧
    (s.cfg.cuCounterAccess = .sel31 → r = .pmxevcntr → exec i s = .next (takeException (undefinedExc s) s)) ∧
    (s.cfg.cuCounterAccess = .sel31 → r = .pmxevtyper →
      (wr = false → MrcRuns i s t (s.pmu.ccfilt &&& 0xFBFFFFFF)) ∧
      (wr = true → WriteRuns i s { s.pmu with
        ccfilt := (w &&& filterMask s.cfg &&& 0xFBFFFFFF) ||| (s.pmu.ccfilt &&& 0x04000000) }))

/-- The syndromes of trapped accesses, as the sums of their fields at their places, the direction bit being 1 for a read and
IL 1: EC 0b011000 for MRS and MSR; EC 0b000011 for MRC and MCR and 0b000100 for MRRC and MCRR, in ESR_ELx with the AArch64
view of the register numbers and in HSR with the numbers themselves. CV is 1 and COND the condition that applies (the
instruction's field in A32, the IT state's in T32), or 0b1110 where the implementation presents it so; a T32 instruction of
an implementation with T32_CV = 0 has CV 0 (60_exceptions R592, R593, R604 to R607, R609). The AArch64 view of R13 and R14
is left open, log 22. -/
def Obligations.SyndromesOfTrappedAccesses : Prop :=
  (∀ (k : Sel64) (wr : Bool) (t : BitVec 5),
    (iss64 k wr t).toNat =
      k.op0.toNat * 2 ^ 20 + k.op2.toNat * 2 ^ 17 + k.op1.toNat * 2 ^ 14 + k.crn.toNat * 2 ^ 10 + t.toNat * 2 ^ 5 +
        k.crm.toNat * 2 + (if wr then 0 else 1) ∧
    (syndrome64 k wr t).toNat = 0b011000 * 2 ^ 26 + 2 ^ 25 + (iss64 k wr t).toNat) ∧
  ∀ (s : State) (k : Sel32) (wr : Bool) (c t t2 : BitVec 4),
    let cv := (condFields s c).1.toNat
    let cond := (condFields s c).2.toNat
    let head (ec : Nat) : Nat := ec * 2 ^ 26 + 2 ^ 25 + cv * 2 ^ 24 + cond * 2 ^ 20
    let direction : Nat := if wr then 0 else 1
    (s.pe.ps.t32 = false ∨ s.cfg.t32CV = true → cv = 1 ∧
      (s.cfg.condPresentation = .asEncoded → cond = (if s.pe.ps.t32 then s.pe.ps.itCond else c).toNat) ∧
      (s.cfg.condPresentation = .alwaysAL → cond = 0b1110)) ∧
    (s.pe.ps.t32 = true → s.cfg.t32CV = false → cv = 0) ∧
    (t.toNat ≤ 12 → (view64 s t).toNat = t.toNat) ∧
    (esr32 s (.single k wr c t)).toNat = head 0b000011 + k.opc2.toNat * 2 ^ 17 + k.opc1.toNat * 2 ^ 14 +
      k.crn.toNat * 2 ^ 10 + (view64 s t).toNat * 2 ^ 5 + k.crm.toNat * 2 + direction ∧
    (esr32 s (.wide wr c t t2)).toNat = head 0b000100 + (view64 s t2).toNat * 2 ^ 10 + (view64 s t).toNat * 2 ^ 5 + 9 * 2 +
      direction ∧
    (hsr32 s (.single k wr c t)).toNat = head 0b000011 + k.opc2.toNat * 2 ^ 17 + k.opc1.toNat * 2 ^ 14 +
      k.crn.toNat * 2 ^ 10 + t.toNat * 2 ^ 5 + k.crm.toNat * 2 + direction ∧
    (hsr32 s (.wide wr c t t2)).toNat = head 0b000100 + t2.toNat * 2 ^ 10 + t.toNat * 2 ^ 5 + 9 * 2 + direction

/-- Taking an exception changes no PMU state, no general register, no context register and no memory; it saves the
syndrome, the pc and the process state of the target, leaves the saved state of every other target, and enters the target;
Undefined mode is a mode of EL3 in Secure state with EL3 using AArch32, where SCR.NS is cleared, and of EL1 otherwise
(60_exceptions R590, R593, R620, R640). The saved pc, LR_und and the handler's address are general knowledge or free, log
11; the clearing of SCR.NS is the model's choice, log 50. -/
def Obligations.ExceptionEntry : Prop :=
  ∀ (s : State) (esr : W32),
    let toEl3 : Prop := isSecure s = true ∧ s.cfg.haveEL3 = true ∧ s.pe.aa32El3 = true
    (∀ x, Trapped s (takeException x s) x) ∧
    (∀ x, x ≠ .toUndefined ∨ ¬ toEl3 → (takeException x s).ctl = s.ctl) ∧
    (toEl3 → (takeException .toUndefined s).ctl = { s.ctl with scr := s.ctl.scr &&& 0xFFFFFFFE }) ∧
    (let p := (takeException (.toAArch64 .el1 esr) s).pe;
      p = { s.pe with esr1 := esr, elr1 := s.pe.pc, spsr1 := s.pe.ps, ps := { s.pe.ps with el := .el1 }, pc := p.pc }) ∧
    (let p := (takeException (.toAArch64 .el2 esr) s).pe;
      p = { s.pe with esr2 := esr, elr2 := s.pe.pc, spsr2 := s.pe.ps, ps := { s.pe.ps with el := .el2 }, pc := p.pc }) ∧
    (let p := (takeException (.toAArch64 .el3 esr) s).pe;
      p = { s.pe with esr3 := esr, elr3 := s.pe.pc, spsr3 := s.pe.ps, ps := { s.pe.ps with el := .el3 }, pc := p.pc }) ∧
    (let p := (takeException (.toHyp esr) s).pe;
      p = { s.pe with esr2 := esr, elr2 := s.pe.pc, spsr2 := s.pe.ps, ps := p.ps, pc := p.pc } ∧
      p.ps = { s.pe.ps with el := .el2, mode := .hyp, t32 := p.ps.t32, itCond := p.ps.itCond }) ∧
    (let p := (takeException .toUndefined s).pe;
      p = { s.pe with lrUnd := p.lrUnd, spsrUnd := s.pe.ps, ps := p.ps, pc := p.pc } ∧
      (s.pe.ps.t32 = false → p.lrUnd = s.pe.pc.setWidth 32 + 4#32) ∧
      p.ps = { s.pe.ps with el := p.ps.el, mode := .undefined, t32 := p.ps.t32, itCond := p.ps.itCond } ∧
      (toEl3 → p.ps.el = .el3) ∧ (¬ toEl3 → p.ps.el = .el1))

/-- An exception taken to a level that uses AArch64 and returned from brings the PE back to the pc, the process state, the
general registers and the PMU it had, from a process state that can occur at a level not above the target, whatever
address and process state the environment gives. After both, the machine is as it was but for what the entry saved at the
target (its ELR, its SPSR), the syndrome of the target, which is unknown, that of Hyp mode, which is unknown where R593
says so, the record that an instruction has been retired and that no exception stands (60_exceptions R593, R620, R621;
entry and return are the model's, logs 11, 12, 41 and 46). -/
def Obligations.ReturnUndoesEntry : Prop :=
  ∀ (s : State) (target : EL) (esr : W32) (pc : W64) (ps : Proc), target ≠ .el0 → usesAArch32 s target = false →
    (currentEL s).level ≤ target.level → legalProcess s = true →
    ∃ s', exceptionReturn pc ps (takeException (.toAArch64 target esr) s) = .next s' ∧
      s' = { s with
        pe := { s.pe with
          esr1 := s'.pe.esr1
          esr2 := s'.pe.esr2
          esr3 := s'.pe.esr3
          elr1 := if target = .el1 then s.pe.pc else s.pe.elr1
          elr2 := if target = .el2 then s.pe.pc else s.pe.elr2
          elr3 := if target = .el3 then s.pe.pc else s.pe.elr3
          spsr1 := if target = .el1 then s.pe.ps else s.pe.spsr1
          spsr2 := if target = .el2 then s.pe.ps else s.pe.spsr2
          spsr3 := if target = .el3 then s.pe.ps else s.pe.spsr3 }
        env := { s.env with retired := true }
        exc := none
        freeCtr := s'.freeCtr } ∧
      (target ≠ .el1 → s'.pe.esr1 = s.pe.esr1) ∧ (target ≠ .el3 → s'.pe.esr3 = s.pe.esr3) ∧
      (target ≠ .el2 →
        ¬ (s.cfg.haveEL2 = true ∧ s.pe.aa32El2 = true ∧ isSecure s = false ∧ currentEL s ≠ .el2) →
        s'.pe.esr2 = s.pe.esr2)

/-! ### Counting -/

/-- An event step adds its k occurrences to each counter that is enabled, not prohibited, of that event, of the right
thread and passing its filter, and to no other, and sets the overflow flag of each that carries; nothing else of the
machine changes. An unsupported event counts nothing, but where the implementation leaves that event number open, a counter
of it may or may not count, if it is enabled, not prohibited, of the right thread and passing its filter (43_counting R541,
R554, R555, R560, R561; decision D13, log 26). SW_INCR, and no occurrence at all, are no event step and are refused (R540;
log 36). -/
def Obligations.EventStepCounts : Prop :=
  ∀ (s : State) (e : BitVec 16) (c : Ctx) (src : Source) (k : Nat) (rest : List Input),
    s.agenda = .event e c src k :: rest → s.pmu.ime = false → s.env.powered = true →
    (e ≠ 0 → 1 ≤ k →
      ∃ (s' : State) (hit : Nat → Prop), step s = .next s' ∧ Counted hit k s.pmu s'.pmu ∧
        (∀ n, ¬ OpenEvent s.cfg (evtCount (evtypeAt s.pmu n)) → (hit n ↔ EventHit s e c src n)) ∧
        (∀ n, hit n → MayCount s c src n) ∧
        s' = { s with pmu := s'.pmu, agenda := rest, freeCtr := s'.freeCtr }) ∧
    (e = 0 ∨ k = 0 → step s = .refused .notAnEventStep)

/-- A cycle step increments the cycle counter when it is enabled, not prohibited and its filter passes: every cycle, or
with LC = 0 and D = 1 every 64th, the prescaler phase counting the others; nothing else of the machine changes (43_counting
R541, R562, R563; the phase is decision D9, log 23). -/
def Obligations.CycleStepCounts : Prop :=
  ∀ (s : State) (c : Ctx) (rest : List Input), s.agenda = .cycle c :: rest → s.pmu.ime = false → s.env.powered = true →
    let lc := !anyAArch32 s.cfg || s.pmu.cr.lc
    let d := anyAArch32 s.cfg && s.pmu.cr.d
    let counts : Prop := s.pmu.cnten.getLsbD 31 = true ∧ s.pmu.cr.e = true ∧ prohibitedForC s c = false ∧
      filterPass s.cfg s.pmu.ccfilt c = true
    ∃ s', step s = .next s' ∧ s' = { s with pmu := s'.pmu, agenda := rest } ∧
      (¬ counts → s'.pmu = s.pmu) ∧
      (counts → (lc = true ∨ d = false) → CycleCounted lc s.pmu s'.pmu) ∧
      (counts → lc = false → d = true →
        (s.pmu.div64 ≠ 63 → s'.pmu = { s.pmu with div64 := s.pmu.div64 + 1 }) ∧
        (s.pmu.div64 = 63 → CycleCounted lc { s.pmu with div64 := 0 } s'.pmu))

/-- When counting is prohibited: never in Non-secure EL0 and EL1; at EL2 by HPMD, for the counters below HPMN and, with DP,
the cycle counter; in Secure state with EL3 by SPME = 0, for all counters and, with DP, the cycle counter, but for Secure
EL0 with SUNIDEN while EL1 uses AArch32; not in Secure state without EL3 (43_counting R548, R549; the use of SUNIDEN is
decision D15, log 28). Events are exported with PMCR.X on an implementation with an event bus, except where any counting is
prohibited (R575). -/
def Obligations.ProhibitionTable : Prop :=
  ∀ (s : State) (n : Nat),
    let dp := (s.cfg.haveEL3 || s.cfg.haveEL2) && s.pmu.cr.dp
    let spme := s.ctl.mdcr3.getLsbD 17
    let relaxed := s.pe.aa32El1 && s.ctl.sder.getLsbD 1
    let bus := s.cfg.haveEventBus && s.pmu.cr.x
    (∀ c, c = .nonSecureEl0 ∨ c = .nonSecureEl1 →
      prohibitedFor s n c = false ∧ prohibitedForC s c = false ∧ exporting s c = bus) ∧
    (s.cfg.haveEL2 = true → s.ctl.mdcr2.getLsbD 17 = true →
      (prohibitedFor s n .nonSecureEl2 = true ↔ ¬ InEl2Range s n) ∧ prohibitedForC s .nonSecureEl2 = dp ∧
      exporting s .nonSecureEl2 = false) ∧
    (s.ctl.mdcr2.getLsbD 17 = false →
      prohibitedFor s n .nonSecureEl2 = false ∧ prohibitedForC s .nonSecureEl2 = false ∧
      exporting s .nonSecureEl2 = bus) ∧
    (s.cfg.haveEL3 = true → spme = false →
      prohibitedFor s n .secureEl0 = !relaxed ∧ prohibitedForC s .secureEl0 = (dp && !relaxed) ∧
      exporting s .secureEl0 = (bus && relaxed) ∧
      ∀ c, c = .secureEl1 ∨ c = .secureEl3 →
        prohibitedFor s n c = true ∧ prohibitedForC s c = dp ∧ exporting s c = false) ∧
    (s.cfg.haveEL3 = false ∨ spme = true →
      ∀ c, c = .secureEl0 ∨ c = .secureEl1 ∨ c = .secureEl3 →
        prohibitedFor s n c = false ∧ prohibitedForC s c = false ∧ exporting s c = bus)

/-- The filter: U filters EL0 and P EL1, in Non-secure state with EL3 as NSU and NSK differ from them; NSH lets EL2 count;
EL3 counts when M equals P (11_pmu R133; EL3 using AArch32 is decision D12, log 25). -/
def Obligations.FilterTable : Prop :=
  ∀ (c : Config) (f : W32),
    (filterPass c f .secureEl0 = true ↔ f.getLsbD 30 = false) ∧
    (filterPass c f .secureEl1 = true ↔ f.getLsbD 31 = false) ∧
    (c.haveEL3 = true → (filterPass c f .nonSecureEl0 = true ↔ f.getLsbD 28 = f.getLsbD 30)) ∧
    (c.haveEL3 = true → (filterPass c f .nonSecureEl1 = true ↔ f.getLsbD 29 = f.getLsbD 31)) ∧
    (c.haveEL3 = false → (filterPass c f .nonSecureEl0 = true ↔ f.getLsbD 30 = false)) ∧
    (c.haveEL3 = false → (filterPass c f .nonSecureEl1 = true ↔ f.getLsbD 31 = false)) ∧
    (filterPass c f .nonSecureEl2 = true ↔ f.getLsbD 27 = true) ∧
    (filterPass c f .secureEl3 = true ↔ f.getLsbD 26 = f.getLsbD 31)

/-- The overflow interrupt request is asserted exactly while an implemented counter has its overflow flag and its interrupt
enable set (43_counting R570; that it is a level is decision D28, log 38). -/
def Obligations.InterruptRequestIsLevel : Prop :=
  ∀ s : State, pmuIrq s = true ↔
    ∃ n, (n = 31 ∨ n < s.cfg.n.val) ∧ s.pmu.ovs.getLsbD n = true ∧ s.pmu.inten.getLsbD n = true

/-- With the core off no counter counts; and in integration mode neither the PE nor the counters move (43_counting R565,
decision D27; 13_external R225, where the model is stuck; log 37). -/
def Obligations.NothingCountsWhenOff : Prop :=
  ∀ (s : State) (rest : List Input) (c : Ctx) (e : BitVec 16) (src : Source) (k : Nat),
    s.agenda = .cycle c :: rest ∨ s.agenda = .event e c src k :: rest →
    (s.pmu.ime = false → s.env.powered = false → step s = .next { s with agenda := rest }) ∧
    (s.pmu.ime = true → step s = .fault .integrationMode)

/-! ### Reset -/

/-- A Warm reset stops counting (E = 0) and resets HPMN to N and HPMD, SPME and EPMAD to 0; into AArch32 also DP, X, D, the
cycle filter and PMUSERENR to 0, into AArch64 DLK to 0; it resets SCR.NS to 0, and leaves the Software Lock, integration
mode, the PC-sample registers, OSLK, CORENPDRQ and SPMAD; the PE starts at the highest level at the reset vector of the
Execution state, ESR_EL2 being 0 without EL2 (70_reset R651, R653, R654; 12_context R162, R163, R171, R172, R184, R192;
60_exceptions R593). -/
def Obligations.WarmResetValues : Prop :=
  ∀ (s : State) (into : ExecState) (rest : List Input), s.agenda = .warmReset into :: rest →
    resetIntoFits s.cfg into = true →
    ∃ s', step s = .next s' ∧ s'.cfg = s.cfg ∧ s'.agenda = rest ∧
      s'.pmu.cr.e = false ∧ (anyAArch32 s.cfg = false → s'.pmu.cr.lc = true) ∧
      (s'.ctl.mdcr2.extractLsb' 0 5).toNat = s.cfg.n.val ∧ s'.ctl.mdcr2.getLsbD 17 = false ∧
      s'.ctl.mdcr3.getLsbD 17 = false ∧ s'.ctl.mdcr3.getLsbD 21 = false ∧ s'.ctl.scr.getLsbD 0 = false ∧
      (s.cfg.haveEL2 = false → s'.pe.esr2 = 0) ∧
      (into = .aarch32 → s'.pmu.cr.dp = false ∧ s'.pmu.cr.x = false ∧ s'.pmu.cr.d = false ∧ s'.pmu.ccfilt = 0 ∧
        s'.pmu.useren = ⟨false, false, false, false⟩) ∧
      (into = .aarch64 → s'.ctl.dlk = false) ∧
      s'.pmu.slk = s.pmu.slk ∧ s'.pmu.ime = s.pmu.ime ∧ s'.pmu.pcsr = s.pmu.pcsr ∧ s'.pmu.cid1 = s.pmu.cid1 ∧
      s'.pmu.cid2 = s.pmu.cid2 ∧ s'.pmu.vid = s.pmu.vid ∧ s'.ctl.oslk = s.ctl.oslk ∧
      s'.ctl.corenpdrq = s.ctl.corenpdrq ∧ s'.ctl.spmad = s.ctl.spmad ∧
      currentEL s' = (if s.cfg.haveEL3 then .el3 else if s.cfg.haveEL2 then .el2 else .el1) ∧
      (into = .aarch64 → s'.pe.pc = s.cfg.resetVector64) ∧
      (into = .aarch32 → s'.pe.pc = s.cfg.resetVector32.setWidth 64) ∧
      ∀ a, memRead s'.mem a = memRead s.mem a

/-- A Cold reset also locks the OS Lock, clears SPMAD and, with PMITCTRL in the Core domain, integration mode; losing power
is a Cold reset, retention changes nothing; an External debug reset locks the Software Lock where it is implemented and,
with PMITCTRL in the Debug domain, ends integration mode, and touches nothing else (70_reset R652, R653; losing power is
decision D19, log 32). The reserved bits [60:56] of PMPCSR are not drawn at a Cold reset (R653; 13_external R250). -/
def Obligations.ColdAndExternalDebugReset : Prop :=
  ∀ (s : State) (into : ExecState) (rest : List Input),
    (s.agenda = .coldReset into :: rest ∨ s.agenda = .powerUp (.lost into) :: rest →
      resetIntoFits s.cfg into = true →
      ∃ s', step s = .next s' ∧ s'.pmu.cr.e = false ∧ s'.ctl.oslk = true ∧ s'.ctl.spmad = false ∧
        s'.pmu.pcsr.extractLsb' 56 5 = 0 ∧
        (s'.ctl.mdcr2.extractLsb' 0 5).toNat = s.cfg.n.val ∧ s'.pmu.slk = s.pmu.slk ∧
        s'.pmu.ime = (if s.cfg.itctrlDomain = .core then false else s.pmu.ime)) ∧
    (s.agenda = .powerUp .retained :: rest →
      step s = .next { s with agenda := rest, env := { s.env with powered := true } }) ∧
    (s.agenda = .powerDown :: rest →
      step s = .next { s with agenda := rest, env := { s.env with powered := false } }) ∧
    (s.agenda = .externalDebugReset :: rest →
      step s = .next { s with
        agenda := rest
        pmu := { s.pmu with
          slk := if s.cfg.softwareLock then true else s.pmu.slk
          ime := if s.cfg.itctrlDomain = .debug then false else s.pmu.ime } })

/-! ### The registers around the PMU -/

/-- The registers that PMU rules read, by MRS and MSR. All are UNDEFINED at EL0, those of EL2 at EL1, those of EL3 below EL3,
a write of a read-only one and a read of OSLAR_EL1 everywhere; MDCR_EL3.TDA takes MDCR_EL2 from EL2 to EL3; MDCR_EL2.TDOSA
(or TDE, or TGE) takes the OS Lock registers from Non-secure EL1 to EL2; otherwise reads and writes follow the layouts, the
EL2 registers reading 0 at EL3 without EL2 (12_context R160 to R162, R168, R170, R175, R180, R182, R184, R186, R187, R190 to
R193, R210; 60_exceptions R640). That HCR_EL2 and SCR_EL3 are stored whole is log 18, the one storage of MDCR_EL3 and SDCR
log 27, the permissions that the pages do not give log 43, what the RW bits do log 51. -/
def Obligations.ContextRegistersInAArch64 : Prop :=
  ∀ (s : State) (t : BitVec 5),
    let v := readX s t
    let w : W32 := v.setWidth 32
    let merged (mask old : W32) : W32 := (w &&& mask) ||| (old &&& ~~~mask)
    let reads (r : Ctx64Reg) (x : W64) : Prop := CtxReads64 r t s x
    let writes (r : Ctx64Reg) (ctl : Ctl) : Prop := CtxWrites (.a64 r true t) s ctl
    let undefined (r : Ctx64Reg) (wr : Bool) : Prop := CtxTakes (.a64 r wr t) s (undefinedExc s)
    let traps (r : Ctx64Reg) (wr : Bool) (el : EL) : Prop :=
      CtxTakes (.a64 r wr t) s (.toAArch64 el (syndrome64 r.sel wr t))
    let atHyp : Prop := currentEL s = .el2 ∨ currentEL s = .el3
    let tda : Prop := s.cfg.haveEL3 = true ∧ s.pe.aa32El3 = false ∧ currentEL s = .el2 ∧ s.ctl.mdcr3.getLsbD 9 = true
    let tdosa : Prop :=
      GuestLevel s ∧ (s.ctl.mdcr2.getLsbD 10 = true ∨ s.ctl.mdcr2.getLsbD 8 = true ∨ s.ctl.hcr.getLsbD 27 = true)
    (∀ r wr, currentEL s = .el0 → undefined r wr) ∧
    (∀ r wr, r = .mdcrEl2 ∨ r = .hstrEl2 ∨ r = .hcrEl2 → currentEL s = .el1 → undefined r wr) ∧
    (∀ r wr, r = .mdcrEl3 ∨ r = .scrEl3 ∨ r = .sder32El3 → currentEL s ≠ .el3 → undefined r wr) ∧
    (∀ r, r = .oslsrEl1 ∨ r = .idAa64dfr0El1 ∨ r = .idDfr0El1 ∨ r = .mpidrEl1 ∨ r = .currentEl → undefined r true) ∧
    undefined .oslarEl1 false ∧
    (∀ wr, tda → traps .mdcrEl2 wr .el3) ∧
    (atHyp → s.cfg.haveEL2 = true →
      (¬ tda → writes .mdcrEl2 { s.ctl with mdcr2 := merged 0x00027FFF s.ctl.mdcr2 } ∧
        ∃ n : BitVec 5, (hpmnLegal s = true → n = s.ctl.mdcr2.extractLsb' 0 5) ∧
          reads .mdcrEl2 ((s.ctl.mdcr2.extractLsb' 5 27 ++ n).setWidth 64)) ∧
      reads .hcrEl2 s.ctl.hcr ∧
      (∃ s', ctxAccess (.a64 .hcrEl2 true t) s = .next s' ∧ ControlWritten s s' { s.ctl with hcr := v }) ∧
      (anyAArch32 s.cfg = true → reads .hstrEl2 (s.ctl.hstr.setWidth 64) ∧
        writes .hstrEl2 { s.ctl with hstr := merged 0x0000BFEF s.ctl.hstr })) ∧
    (currentEL s = .el3 → s.cfg.haveEL2 = false → reads .mdcrEl2 0 ∧ reads .hcrEl2 0 ∧ reads .hstrEl2 0 ∧
      writes .mdcrEl2 s.ctl ∧ writes .hstrEl2 s.ctl) ∧
    (currentEL s = .el3 →
      reads .mdcrEl3 (s.ctl.mdcr3.setWidth 64) ∧
      writes .mdcrEl3 { s.ctl with
        mdcr3 := merged (if s.cfg.haveExternalPMU then 0x0033F640 else 0x0013F640) s.ctl.mdcr3 } ∧
      (canAArch32 s.cfg .el0 = true ∨ canAArch32 s.cfg .el1 = true ∨ canAArch32 s.cfg .el2 = true →
        reads .scrEl3 (s.ctl.scr.setWidth 64)) ∧
      (canAArch32 s.cfg .el0 = false → canAArch32 s.cfg .el1 = false → canAArch32 s.cfg .el2 = false →
        reads .scrEl3 ((s.ctl.scr ||| 0x400).setWidth 64)) ∧
      (∃ s', ctxAccess (.a64 .scrEl3 true t) s = .next s' ∧ ControlWritten s s' { s.ctl with scr := w }) ∧
      (canAArch32 s.cfg .el1 = true → reads .sder32El3 (s.ctl.sder.setWidth 64) ∧
        writes .sder32El3 { s.ctl with sder := merged 3 s.ctl.sder })) ∧
    (currentEL s = .el1 → tdosa → traps .oslsrEl1 false .el2 ∧ traps .oslarEl1 true .el2 ∧
      ∀ wr, traps .osdlrEl1 wr .el2 ∧ traps .dbgprcrEl1 wr .el2) ∧
    (currentEL s ≠ .el0 → ¬ tdosa →
      reads .oslsrEl1 (if s.ctl.oslk then 0b1010 else 0b1000) ∧
      writes .oslarEl1 { s.ctl with oslk := v.getLsbD 0 } ∧
      reads .osdlrEl1 (if s.ctl.dlk then 1 else 0) ∧ writes .osdlrEl1 { s.ctl with dlk := v.getLsbD 0 } ∧
      reads .dbgprcrEl1 (if s.ctl.corenpdrq then 1 else 0) ∧
      writes .dbgprcrEl1 { s.ctl with corenpdrq := v.getLsbD 0 }) ∧
    (currentEL s ≠ .el0 →
      (∃ x, x.extractLsb' 8 4 = 0b0100 ∧ reads .idAa64dfr0El1 x) ∧
      (∃ x : W32, x.extractLsb' 24 4 = 0b0100 ∧ reads .idDfr0El1 (x.setWidth 64)) ∧
      reads .mpidrEl1 (0#24 ++ s.cfg.aff3 ++ 1#1 ++ BitVec.ofBool s.cfg.uniprocessor ++ 0#5 ++
        BitVec.ofBool s.cfg.isMultithreaded ++ s.cfg.aff2 ++ s.cfg.aff1 ++ s.cfg.aff0) ∧
      reads .currentEl (BitVec.ofNat 64 (4 * (currentEL s).level)))

/-- A read of EDPRSR while the core is on and neither locked nor in Reset state shows SPMAD in bit 10, PU = 1 in bit 0 and
OSLK = 0 in bit 5, and clears SPMAD unless the reader's own Software Lock is set; it changes nothing else (12_context R200,
R201, R203, R205; 70_reset R675; that R is Env.inReset is the model's choice, log 42). -/
def Obligations.EdprsrReadClearsSpmad : Prop :=
  ∀ (s : State) (lock : Bool) (rest : List Input), s.agenda = .readEdprsr lock :: rest → s.pmu.ime = false →
    Unlocked s → s.env.inReset = false →
    ∃ (s' : State) (v : W32), step s = .next s' ∧ v.getLsbD 10 = s.ctl.spmad ∧ v.getLsbD 0 = true ∧ v.getLsbD 5 = false ∧
      s' = { s with
        agenda := rest
        resp := .data v
        ctl := { s.ctl with spmad := if lock then s.ctl.spmad else false }
        freeCtr := s'.freeCtr }

/-! ### The whole machine -/

/-- No System register access changes the value, type, enable, interrupt enable or overflow flag of a counter that is not
accessible to it: what a hypervisor keeps by HPMN, no instruction of Non-secure EL1 and EL0 reaches (11_pmu R95; 60_exceptions
R631; 10_state R34). -/
def Obligations.HiddenCountersAreIsolated : Prop :=
  ∀ (i : Instr) (s t : State), (∀ r q mm, i.form ≠ .ext r q mm) → exec i s = .next t →
    ∀ n, accessibleN s ≤ n → n < 31 →
      evcntAt t.pmu n = evcntAt s.pmu n ∧ evtypeAt t.pmu n = evtypeAt s.pmu n ∧
      t.pmu.cnten.getLsbD n = s.pmu.cnten.getLsbD n ∧ t.pmu.inten.getLsbD n = s.pmu.inten.getLsbD n ∧
      t.pmu.ovs.getLsbD n = s.pmu.ovs.getLsbD n

/-- Every step of the machine keeps the invariant: a legal implementation, no bit or counter that does not exist holds
anything, the RES0 bits of PMPCSR and of the context registers stay zero, the memory stays in its canonical form, the lower
levels use the Execution states that SCR_EL3.RW and HCR_EL2.RW give them (the model's reading, log 51); and the
implementation's parameters never change (10_state R34, R35; 00_scope R9, R14; 13_external R250; 60_exceptions R642). -/
def Obligations.EveryStepKeepsInvariant : Prop :=
  ∀ s s' : State, StateInv s → step s = .next s' → StateInv s' ∧ s'.cfg = s.cfg

/-- The machine after reset meets the invariant and has the reset values the spec gives: counting off, HPMN = N, HPMD, SPME
and EPMAD 0, SCR.NS 0, the OS Lock and the Software Lock locked, SPMAD, DLK and IME 0, the PE at EL3 (of the model's configuration,
log 1) at its reset vector (70_reset R650, R653, R654, R661; 10_state R32; 12_context R184). -/
def Obligations.ResetState : Prop :=
  StateInv State.reset ∧ State.reset.pmu.cr.e = false ∧
  (State.reset.ctl.mdcr2.extractLsb' 0 5).toNat = State.reset.cfg.n.val ∧ State.reset.ctl.mdcr2.getLsbD 17 = false ∧
  State.reset.ctl.mdcr3.getLsbD 17 = false ∧ State.reset.ctl.mdcr3.getLsbD 21 = false ∧
  State.reset.ctl.scr.getLsbD 0 = false ∧ State.reset.ctl.oslk = true ∧ State.reset.pmu.slk = true ∧ State.reset.ctl.spmad = false ∧
  State.reset.ctl.dlk = false ∧ State.reset.pmu.ime = false ∧ currentEL State.reset = .el3 ∧
  State.reset.pe.pc = State.reset.cfg.resetVector64

/-- The registers that PMU rules read, by MRC and MCR whose condition passes. HDCR and HCR are reached at EL2 and, with
SCR.NS = 1, at EL3; HSTR at EL2 and EL3; SDCR and SCR at EL3; SDER at EL3 and Secure EL1; ID_DFR0 is read above EL0; every
other access is UNDEFINED, but SDCR from Secure EL1 with EL3 using AArch64, which is trapped to EL3. MDCR_EL3.TDA takes HDCR
from EL2 to EL3, HSTR.T0 takes ID_DFR0 from Non-secure EL1 to EL2 or Hyp mode. Reads and writes follow the layouts, SDCR
in the storage of MDCR_EL3 (12_context R160, R168, R173, R175, R180, R182, R184, R187; 60_exceptions R640, R641). That SCR
and HCR are stored whole is log 18, the one storage of SDCR and MDCR_EL3 log 27, HCR's encoding and permissions
and that SCR is UNDEFINED below EL3 (from Secure EL1 with EL3 using AArch64 too) log 43, what a write of SCR or HCR does to
the levels log 51. -/
def Obligations.ContextRegistersInAArch32 : Prop :=
  ∀ (s : State) (c t : BitVec 4), conditionPasses s c = true → wfReg32 t = true →
    let v := readR s t
    let merged (mask old : W32) : W32 := (v &&& mask) ||| (old &&& ~~~mask)
    let reads (r : Ctx32Reg) (x : W32) : Prop := CtxReads32 r c t s x
    let writes (r : Ctx32Reg) (ctl : Ctl) : Prop := CtxWrites (.a32 r true c t) s ctl
    let undefined (r : Ctx32Reg) (wr : Bool) : Prop := CtxTakes (.a32 r wr c t) s (undefinedExc s)
    let syndrome (r : Ctx32Reg) (wr : Bool) : Access32 := .single r.sel wr c t
    let trapsEl3 (r : Ctx32Reg) (wr : Bool) : Prop :=
      CtxTakes (.a32 r wr c t) s (.toAArch64 .el3 (esr32 s (syndrome r wr)))
    let hypView : Prop := currentEL s = .el2 ∨ (currentEL s = .el3 ∧ s.ctl.scr.getLsbD 0 = true)
    let el3In64 : Prop := s.cfg.haveEL3 = true ∧ s.pe.aa32El3 = false
    let tda : Prop := el3In64 ∧ currentEL s = .el2 ∧ s.ctl.mdcr3.getLsbD 9 = true
    let secureEl1 : Prop := currentEL s = .el1 ∧ isSecure s = true
    let sdcrMask : W32 := if s.cfg.haveExternalPMU then 0x0032C000 else 0x0012C000
    let t0 : Prop := GuestLevel s ∧ s.ctl.hstr.getLsbD 0 = true ∧
      ¬ (s.pe.aa32El2 = false ∧ s.ctl.hcr.getLsbD 34 = true ∧ s.ctl.hcr.getLsbD 27 = true)
    (∀ wr, ¬ hypView → undefined .hdcr wr ∧ undefined .hcr wr) ∧
    (∀ wr, currentEL s = .el0 ∨ currentEL s = .el1 → undefined .hstr wr) ∧
    (∀ wr, currentEL s ≠ .el3 → undefined .scr wr ∧ (¬ (secureEl1 ∧ el3In64) → undefined .sdcr wr)) ∧
    (∀ wr, currentEL s ≠ .el3 → ¬ secureEl1 → undefined .sder wr) ∧
    (currentEL s = .el0 → undefined .idDfr0 false) ∧ undefined .idDfr0 true ∧
    (∀ wr, secureEl1 → el3In64 → trapsEl3 .sdcr wr) ∧
    (∀ wr, tda → trapsEl3 .hdcr wr) ∧
    (currentEL s = .el1 → t0 →
      (s.pe.aa32El2 = false →
        CtxTakes (.a32 .idDfr0 false c t) s (.toAArch64 .el2 (esr32 s (syndrome .idDfr0 false)))) ∧
      (s.pe.aa32El2 = true → CtxTakes (.a32 .idDfr0 false c t) s (.toHyp (hsr32 s (syndrome .idDfr0 false))))) ∧
    (currentEL s ≠ .el0 → ¬ t0 → ∃ x : W32, x.extractLsb' 24 4 = 0b0100 ∧ reads .idDfr0 x) ∧
    (hypView → s.cfg.haveEL2 = true →
      (¬ tda → writes .hdcr { s.ctl with mdcr2 := merged 0x00020FFF s.ctl.mdcr2 } ∧
        ∃ n : BitVec 5, (hpmnLegal s = true → n = s.ctl.mdcr2.extractLsb' 0 5) ∧
          reads .hdcr ((s.ctl.mdcr2.extractLsb' 5 27 ++ n) &&& 0x00020FFF)) ∧
      reads .hcr (s.ctl.hcr.setWidth 32) ∧
      ∃ s', ctxAccess (.a32 .hcr true c t) s = .next s' ∧
        ControlWritten s s' { s.ctl with hcr := s.ctl.hcr.extractLsb' 32 32 ++ v }) ∧
    (currentEL s = .el2 ∨ currentEL s = .el3 → s.cfg.haveEL2 = true → anyAArch32 s.cfg = true →
      reads .hstr s.ctl.hstr ∧ writes .hstr { s.ctl with hstr := merged 0x0000BFEF s.ctl.hstr }) ∧
    (currentEL s = .el3 →
      reads .sdcr (s.ctl.mdcr3 &&& sdcrMask) ∧ writes .sdcr { s.ctl with mdcr3 := merged sdcrMask s.ctl.mdcr3 } ∧
      (canAArch32 s.cfg .el1 = true → reads .scr s.ctl.scr) ∧
      ∃ s', ctxAccess (.a32 .scr true c t) s = .next s' ∧ ControlWritten s s' { s.ctl with scr := v }) ∧
    (currentEL s = .el3 ∨ secureEl1 →
      reads .sder s.ctl.sder ∧ writes .sder { s.ctl with sder := merged 3 s.ctl.sder })
end

