-- ==== Sys2Proof/Laws/State.lean ====
section
/-! SUPPORT. One lemma per field of State for each update of the model, so that no proof unfolds a record update. -/
namespace Sys2Proof.Machine

open Sys2Proof

/-! ### bump -/

@[simp] theorem bump_cfg (k : Nat) (s : State) : (bump k s).cfg = s.cfg := rfl
@[simp] theorem bump_pmu (k : Nat) (s : State) : (bump k s).pmu = s.pmu := rfl
@[simp] theorem bump_ctl (k : Nat) (s : State) : (bump k s).ctl = s.ctl := rfl
@[simp] theorem bump_pe (k : Nat) (s : State) : (bump k s).pe = s.pe := rfl
@[simp] theorem bump_env (k : Nat) (s : State) : (bump k s).env = s.env := rfl
@[simp] theorem bump_mem (k : Nat) (s : State) : (bump k s).mem = s.mem := rfl
@[simp] theorem bump_agenda (k : Nat) (s : State) : (bump k s).agenda = s.agenda := rfl
@[simp] theorem bump_resp (k : Nat) (s : State) : (bump k s).resp = s.resp := rfl
@[simp] theorem bump_exc (k : Nat) (s : State) : (bump k s).exc = s.exc := rfl
@[simp] theorem bump_freeCtr (k : Nat) (s : State) : (bump k s).freeCtr = s.freeCtr + k := rfl

/-! ### retire -/

@[simp] theorem retire_cfg (s : State) : (retire s).cfg = s.cfg := rfl
@[simp] theorem retire_pmu (s : State) : (retire s).pmu = s.pmu := rfl
@[simp] theorem retire_ctl (s : State) : (retire s).ctl = s.ctl := rfl
@[simp] theorem retire_mem (s : State) : (retire s).mem = s.mem := rfl
@[simp] theorem retire_agenda (s : State) : (retire s).agenda = s.agenda := rfl
@[simp] theorem retire_resp (s : State) : (retire s).resp = s.resp := rfl
@[simp] theorem retire_freeCtr (s : State) : (retire s).freeCtr = s.freeCtr := rfl
@[simp] theorem retire_pe (s : State) : (retire s).pe = { s.pe with pc := nextPc s } := rfl
@[simp] theorem retire_env (s : State) : (retire s).env = { s.env with retired := true } := rfl
@[simp] theorem retire_exc (s : State) : (retire s).exc = none := rfl

/-! ### respond -/

@[simp] theorem respond_cfg (r : Response) (s : State) : (respond r s).cfg = s.cfg := rfl
@[simp] theorem respond_pmu (r : Response) (s : State) : (respond r s).pmu = s.pmu := rfl
@[simp] theorem respond_ctl (r : Response) (s : State) : (respond r s).ctl = s.ctl := rfl
@[simp] theorem respond_pe (r : Response) (s : State) : (respond r s).pe = s.pe := rfl
@[simp] theorem respond_env (r : Response) (s : State) : (respond r s).env = s.env := rfl
@[simp] theorem respond_mem (r : Response) (s : State) : (respond r s).mem = s.mem := rfl
@[simp] theorem respond_agenda (r : Response) (s : State) : (respond r s).agenda = s.agenda := rfl
@[simp] theorem respond_exc (r : Response) (s : State) : (respond r s).exc = s.exc := rfl
@[simp] theorem respond_freeCtr (r : Response) (s : State) : (respond r s).freeCtr = s.freeCtr := rfl
@[simp] theorem respond_resp (r : Response) (s : State) : (respond r s).resp = r := rfl

/-! ### writeX, writeR -/

@[simp] theorem writeX_cfg (t : BitVec 5) (v : W64) (s : State) : (writeX t v s).cfg = s.cfg := by unfold writeX; split <;> rfl
@[simp] theorem writeX_pmu (t : BitVec 5) (v : W64) (s : State) : (writeX t v s).pmu = s.pmu := by unfold writeX; split <;> rfl
@[simp] theorem writeX_ctl (t : BitVec 5) (v : W64) (s : State) : (writeX t v s).ctl = s.ctl := by unfold writeX; split <;> rfl
@[simp] theorem writeX_env (t : BitVec 5) (v : W64) (s : State) : (writeX t v s).env = s.env := by unfold writeX; split <;> rfl
@[simp] theorem writeX_mem (t : BitVec 5) (v : W64) (s : State) : (writeX t v s).mem = s.mem := by unfold writeX; split <;> rfl
@[simp] theorem writeX_agenda (t : BitVec 5) (v : W64) (s : State) : (writeX t v s).agenda = s.agenda := by unfold writeX; split <;> rfl
@[simp] theorem writeX_resp (t : BitVec 5) (v : W64) (s : State) : (writeX t v s).resp = s.resp := by unfold writeX; split <;> rfl
@[simp] theorem writeX_exc (t : BitVec 5) (v : W64) (s : State) : (writeX t v s).exc = s.exc := by unfold writeX; split <;> rfl
@[simp] theorem writeX_freeCtr (t : BitVec 5) (v : W64) (s : State) : (writeX t v s).freeCtr = s.freeCtr := by unfold writeX; split <;> rfl
@[simp] theorem writeX_pe_ps (t : BitVec 5) (v : W64) (s : State) : (writeX t v s).pe.ps = s.pe.ps := by unfold writeX; split <;> rfl
@[simp] theorem writeX_pe_pc (t : BitVec 5) (v : W64) (s : State) : (writeX t v s).pe.pc = s.pe.pc := by unfold writeX; split <;> rfl
@[simp] theorem writeX_pe_aa32El0 (t : BitVec 5) (v : W64) (s : State) : (writeX t v s).pe.aa32El0 = s.pe.aa32El0 := by unfold writeX; split <;> rfl
@[simp] theorem writeX_pe_aa32El1 (t : BitVec 5) (v : W64) (s : State) : (writeX t v s).pe.aa32El1 = s.pe.aa32El1 := by unfold writeX; split <;> rfl
@[simp] theorem writeX_pe_aa32El2 (t : BitVec 5) (v : W64) (s : State) : (writeX t v s).pe.aa32El2 = s.pe.aa32El2 := by unfold writeX; split <;> rfl
@[simp] theorem writeX_pe_aa32El3 (t : BitVec 5) (v : W64) (s : State) : (writeX t v s).pe.aa32El3 = s.pe.aa32El3 := by unfold writeX; split <;> rfl
@[simp] theorem writeX_pe_r (t : BitVec 5) (v : W64) (s : State) : (writeX t v s).pe.r = s.pe.r := by unfold writeX; split <;> rfl
@[simp] theorem writeR_cfg (t : BitVec 4) (v : W32) (s : State) : (writeR t v s).cfg = s.cfg := by unfold writeR; split <;> rfl
@[simp] theorem writeR_pmu (t : BitVec 4) (v : W32) (s : State) : (writeR t v s).pmu = s.pmu := by unfold writeR; split <;> rfl
@[simp] theorem writeR_ctl (t : BitVec 4) (v : W32) (s : State) : (writeR t v s).ctl = s.ctl := by unfold writeR; split <;> rfl
@[simp] theorem writeR_env (t : BitVec 4) (v : W32) (s : State) : (writeR t v s).env = s.env := by unfold writeR; split <;> rfl
@[simp] theorem writeR_mem (t : BitVec 4) (v : W32) (s : State) : (writeR t v s).mem = s.mem := by unfold writeR; split <;> rfl
@[simp] theorem writeR_agenda (t : BitVec 4) (v : W32) (s : State) : (writeR t v s).agenda = s.agenda := by unfold writeR; split <;> rfl
@[simp] theorem writeR_resp (t : BitVec 4) (v : W32) (s : State) : (writeR t v s).resp = s.resp := by unfold writeR; split <;> rfl
@[simp] theorem writeR_exc (t : BitVec 4) (v : W32) (s : State) : (writeR t v s).exc = s.exc := by unfold writeR; split <;> rfl
@[simp] theorem writeR_freeCtr (t : BitVec 4) (v : W32) (s : State) : (writeR t v s).freeCtr = s.freeCtr := by unfold writeR; split <;> rfl
@[simp] theorem writeR_pe_ps (t : BitVec 4) (v : W32) (s : State) : (writeR t v s).pe.ps = s.pe.ps := by unfold writeR; split <;> rfl
@[simp] theorem writeR_pe_pc (t : BitVec 4) (v : W32) (s : State) : (writeR t v s).pe.pc = s.pe.pc := by unfold writeR; split <;> rfl
@[simp] theorem writeR_pe_aa32El0 (t : BitVec 4) (v : W32) (s : State) : (writeR t v s).pe.aa32El0 = s.pe.aa32El0 := by unfold writeR; split <;> rfl
@[simp] theorem writeR_pe_aa32El1 (t : BitVec 4) (v : W32) (s : State) : (writeR t v s).pe.aa32El1 = s.pe.aa32El1 := by unfold writeR; split <;> rfl
@[simp] theorem writeR_pe_aa32El2 (t : BitVec 4) (v : W32) (s : State) : (writeR t v s).pe.aa32El2 = s.pe.aa32El2 := by unfold writeR; split <;> rfl
@[simp] theorem writeR_pe_aa32El3 (t : BitVec 4) (v : W32) (s : State) : (writeR t v s).pe.aa32El3 = s.pe.aa32El3 := by unfold writeR; split <;> rfl
@[simp] theorem writeR_pe_x (t : BitVec 4) (v : W32) (s : State) : (writeR t v s).pe.x = s.pe.x := by unfold writeR; split <;> rfl

/-! ### takeException -/

@[simp] theorem takeException_cfg (x : Exc) (s : State) : (takeException x s).cfg = s.cfg := rfl
@[simp] theorem takeException_pmu (x : Exc) (s : State) : (takeException x s).pmu = s.pmu := rfl
@[simp] theorem takeException_ctl (x : Exc) (s : State) : (takeException x s).ctl = entryCtl x s := rfl
@[simp] theorem takeException_env (x : Exc) (s : State) : (takeException x s).env = s.env := rfl
@[simp] theorem takeException_mem (x : Exc) (s : State) : (takeException x s).mem = s.mem := rfl
@[simp] theorem takeException_agenda (x : Exc) (s : State) : (takeException x s).agenda = s.agenda := rfl
@[simp] theorem takeException_resp (x : Exc) (s : State) : (takeException x s).resp = s.resp := rfl
@[simp] theorem takeException_exc (x : Exc) (s : State) : (takeException x s).exc = some x := rfl
@[simp] theorem takeException_freeCtr (x : Exc) (s : State) : (takeException x s).freeCtr = s.freeCtr + 4 := rfl
@[simp] theorem takeException_pe_x (e : Exc) (s : State) : (takeException e s).pe.x = s.pe.x := by
  cases e with
  | toAArch64 t _ => cases t <;> rfl
  | toUndefined => rfl
  | toHyp _ => rfl
@[simp] theorem takeException_pe_r (e : Exc) (s : State) : (takeException e s).pe.r = s.pe.r := by
  cases e with
  | toAArch64 t _ => cases t <;> rfl
  | toUndefined => rfl
  | toHyp _ => rfl

/-! ### Execution states and Exception levels after a control write -/

@[simp] theorem settleExec_cfg (s : State) : (settleExec s).cfg = s.cfg := rfl
@[simp] theorem settleExec_pmu (s : State) : (settleExec s).pmu = s.pmu := rfl
@[simp] theorem settleExec_ctl (s : State) : (settleExec s).ctl = s.ctl := rfl
@[simp] theorem settleExec_env (s : State) : (settleExec s).env = s.env := rfl
@[simp] theorem settleExec_mem (s : State) : (settleExec s).mem = s.mem := rfl
@[simp] theorem settleExec_agenda (s : State) : (settleExec s).agenda = s.agenda := rfl
@[simp] theorem settleExec_resp (s : State) : (settleExec s).resp = s.resp := rfl
@[simp] theorem settleExec_exc (s : State) : (settleExec s).exc = s.exc := rfl
@[simp] theorem settleExec_freeCtr (s : State) : (settleExec s).freeCtr = s.freeCtr := rfl
@[simp] theorem settleExec_pe (s : State) : (settleExec s).pe =
    { s.pe with aa32El2 := settledEl2 s, aa32El1 := settledEl1 s, aa32El0 := settledEl0 s } := rfl
@[simp] theorem relevel_cfg (s : State) : (relevel s).cfg = s.cfg := by unfold relevel; split <;> rfl
@[simp] theorem relevel_pmu (s : State) : (relevel s).pmu = s.pmu := by unfold relevel; split <;> rfl
@[simp] theorem relevel_ctl (s : State) : (relevel s).ctl = s.ctl := by unfold relevel; split <;> rfl
@[simp] theorem relevel_env (s : State) : (relevel s).env = s.env := by unfold relevel; split <;> rfl
@[simp] theorem relevel_mem (s : State) : (relevel s).mem = s.mem := by unfold relevel; split <;> rfl
@[simp] theorem relevel_agenda (s : State) : (relevel s).agenda = s.agenda := by unfold relevel; split <;> rfl
@[simp] theorem relevel_resp (s : State) : (relevel s).resp = s.resp := by unfold relevel; split <;> rfl
@[simp] theorem relevel_exc (s : State) : (relevel s).exc = s.exc := by unfold relevel; split <;> rfl
@[simp] theorem relevel_freeCtr (s : State) : (relevel s).freeCtr = s.freeCtr := by unfold relevel; split <;> rfl
theorem relevel_pe (s : State) : (relevel s).pe =
    { s.pe with ps := { s.pe.ps with el := (relevel s).pe.ps.el } } := by unfold relevel; split <;> rfl
@[simp] theorem relevel_pe_aa32El0 (s : State) : (relevel s).pe.aa32El0 = s.pe.aa32El0 := by unfold relevel; split <;> rfl
@[simp] theorem relevel_pe_aa32El1 (s : State) : (relevel s).pe.aa32El1 = s.pe.aa32El1 := by unfold relevel; split <;> rfl
@[simp] theorem relevel_pe_aa32El2 (s : State) : (relevel s).pe.aa32El2 = s.pe.aa32El2 := by unfold relevel; split <;> rfl
@[simp] theorem relevel_pe_aa32El3 (s : State) : (relevel s).pe.aa32El3 = s.pe.aa32El3 := by unfold relevel; split <;> rfl
@[simp] theorem hsrUnknown_cfg (s : State) : (hsrUnknown s).cfg = s.cfg := by unfold hsrUnknown; split <;> rfl
@[simp] theorem hsrUnknown_pmu (s : State) : (hsrUnknown s).pmu = s.pmu := by unfold hsrUnknown; split <;> rfl
@[simp] theorem hsrUnknown_ctl (s : State) : (hsrUnknown s).ctl = s.ctl := by unfold hsrUnknown; split <;> rfl
@[simp] theorem hsrUnknown_env (s : State) : (hsrUnknown s).env = s.env := by unfold hsrUnknown; split <;> rfl
@[simp] theorem hsrUnknown_mem (s : State) : (hsrUnknown s).mem = s.mem := by unfold hsrUnknown; split <;> rfl
@[simp] theorem hsrUnknown_agenda (s : State) : (hsrUnknown s).agenda = s.agenda := by unfold hsrUnknown; split <;> rfl
@[simp] theorem hsrUnknown_resp (s : State) : (hsrUnknown s).resp = s.resp := by unfold hsrUnknown; split <;> rfl
@[simp] theorem hsrUnknown_exc (s : State) : (hsrUnknown s).exc = s.exc := by unfold hsrUnknown; split <;> rfl
@[simp] theorem hsrUnknown_freeCtr (s : State) : (hsrUnknown s).freeCtr = s.freeCtr := by unfold hsrUnknown; split <;> rfl
theorem hsrUnknown_pe (s : State) : (hsrUnknown s).pe = { s.pe with esr2 := (hsrUnknown s).pe.esr2 } := by
  unfold hsrUnknown; split <;> rfl
@[simp] theorem hsrUnknown_pe_aa32El0 (s : State) : (hsrUnknown s).pe.aa32El0 = s.pe.aa32El0 := by unfold hsrUnknown; split <;> rfl
@[simp] theorem hsrUnknown_pe_aa32El1 (s : State) : (hsrUnknown s).pe.aa32El1 = s.pe.aa32El1 := by unfold hsrUnknown; split <;> rfl
@[simp] theorem hsrUnknown_pe_aa32El2 (s : State) : (hsrUnknown s).pe.aa32El2 = s.pe.aa32El2 := by unfold hsrUnknown; split <;> rfl
@[simp] theorem hsrUnknown_pe_aa32El3 (s : State) : (hsrUnknown s).pe.aa32El3 = s.pe.aa32El3 := by unfold hsrUnknown; split <;> rfl
@[simp] theorem forgetSyndrome_cfg (s : State) : (forgetSyndrome s).cfg = s.cfg := rfl
@[simp] theorem forgetSyndrome_pmu (s : State) : (forgetSyndrome s).pmu = s.pmu := rfl
@[simp] theorem forgetSyndrome_ctl (s : State) : (forgetSyndrome s).ctl = s.ctl := rfl
@[simp] theorem forgetSyndrome_env (s : State) : (forgetSyndrome s).env = s.env := rfl
@[simp] theorem forgetSyndrome_mem (s : State) : (forgetSyndrome s).mem = s.mem := rfl
@[simp] theorem forgetSyndrome_agenda (s : State) : (forgetSyndrome s).agenda = s.agenda := rfl
@[simp] theorem forgetSyndrome_resp (s : State) : (forgetSyndrome s).resp = s.resp := rfl
@[simp] theorem forgetSyndrome_exc (s : State) : (forgetSyndrome s).exc = s.exc := rfl
@[simp] theorem forgetSyndrome_freeCtr (s : State) : (forgetSyndrome s).freeCtr = s.freeCtr := rfl
theorem forgetSyndrome_pe (s : State) : (forgetSyndrome s).pe =
    { s.pe with esr1 := (forgetSyndrome s).pe.esr1, esr2 := (forgetSyndrome s).pe.esr2, esr3 := (forgetSyndrome s).pe.esr3 } := by
  unfold forgetSyndrome setSyndrome; cases currentEL s <;> rfl
@[simp] theorem forgetSyndrome_pe_aa32El0 (s : State) : (forgetSyndrome s).pe.aa32El0 = s.pe.aa32El0 := by
  unfold forgetSyndrome setSyndrome; cases currentEL s <;> rfl
@[simp] theorem forgetSyndrome_pe_aa32El1 (s : State) : (forgetSyndrome s).pe.aa32El1 = s.pe.aa32El1 := by
  unfold forgetSyndrome setSyndrome; cases currentEL s <;> rfl
@[simp] theorem forgetSyndrome_pe_aa32El2 (s : State) : (forgetSyndrome s).pe.aa32El2 = s.pe.aa32El2 := by
  unfold forgetSyndrome setSyndrome; cases currentEL s <;> rfl
@[simp] theorem forgetSyndrome_pe_aa32El3 (s : State) : (forgetSyndrome s).pe.aa32El3 = s.pe.aa32El3 := by
  unfold forgetSyndrome setSyndrome; cases currentEL s <;> rfl
@[simp] theorem controlChanged_cfg (s : State) : (controlChanged s).cfg = s.cfg := by simp [controlChanged]
@[simp] theorem controlChanged_pmu (s : State) : (controlChanged s).pmu = s.pmu := by simp [controlChanged]
@[simp] theorem controlChanged_ctl (s : State) : (controlChanged s).ctl = s.ctl := by simp [controlChanged]
@[simp] theorem controlChanged_env (s : State) : (controlChanged s).env = s.env := by simp [controlChanged]
@[simp] theorem controlChanged_mem (s : State) : (controlChanged s).mem = s.mem := by simp [controlChanged]
@[simp] theorem controlChanged_agenda (s : State) : (controlChanged s).agenda = s.agenda := by simp [controlChanged]
@[simp] theorem controlChanged_resp (s : State) : (controlChanged s).resp = s.resp := by simp [controlChanged]
@[simp] theorem controlChanged_exc (s : State) : (controlChanged s).exc = s.exc := by simp [controlChanged]
@[simp] theorem controlChanged_freeCtr (s : State) : (controlChanged s).freeCtr = s.freeCtr + 1 := by simp [controlChanged]

/-! ### The PMU writes: only the PMU changes -/

@[simp] theorem setCnten_cfg (v : W32) (s : State) : (setCnten v s).cfg = s.cfg := rfl
@[simp] theorem setCnten_ctl (v : W32) (s : State) : (setCnten v s).ctl = s.ctl := rfl
@[simp] theorem setCnten_pe (v : W32) (s : State) : (setCnten v s).pe = s.pe := rfl
@[simp] theorem setCnten_env (v : W32) (s : State) : (setCnten v s).env = s.env := rfl
@[simp] theorem setCnten_mem (v : W32) (s : State) : (setCnten v s).mem = s.mem := rfl
@[simp] theorem setCnten_agenda (v : W32) (s : State) : (setCnten v s).agenda = s.agenda := rfl
@[simp] theorem setCnten_resp (v : W32) (s : State) : (setCnten v s).resp = s.resp := rfl
@[simp] theorem setCnten_exc (v : W32) (s : State) : (setCnten v s).exc = s.exc := rfl
@[simp] theorem setCnten_freeCtr (v : W32) (s : State) : (setCnten v s).freeCtr = s.freeCtr := rfl
@[simp] theorem clearCnten_cfg (v : W32) (s : State) : (clearCnten v s).cfg = s.cfg := rfl
@[simp] theorem clearCnten_ctl (v : W32) (s : State) : (clearCnten v s).ctl = s.ctl := rfl
@[simp] theorem clearCnten_pe (v : W32) (s : State) : (clearCnten v s).pe = s.pe := rfl
@[simp] theorem clearCnten_env (v : W32) (s : State) : (clearCnten v s).env = s.env := rfl
@[simp] theorem clearCnten_mem (v : W32) (s : State) : (clearCnten v s).mem = s.mem := rfl
@[simp] theorem clearCnten_agenda (v : W32) (s : State) : (clearCnten v s).agenda = s.agenda := rfl
@[simp] theorem clearCnten_resp (v : W32) (s : State) : (clearCnten v s).resp = s.resp := rfl
@[simp] theorem clearCnten_exc (v : W32) (s : State) : (clearCnten v s).exc = s.exc := rfl
@[simp] theorem clearCnten_freeCtr (v : W32) (s : State) : (clearCnten v s).freeCtr = s.freeCtr := rfl
@[simp] theorem setInten_cfg (v : W32) (s : State) : (setInten v s).cfg = s.cfg := rfl
@[simp] theorem setInten_ctl (v : W32) (s : State) : (setInten v s).ctl = s.ctl := rfl
@[simp] theorem setInten_pe (v : W32) (s : State) : (setInten v s).pe = s.pe := rfl
@[simp] theorem setInten_env (v : W32) (s : State) : (setInten v s).env = s.env := rfl
@[simp] theorem setInten_mem (v : W32) (s : State) : (setInten v s).mem = s.mem := rfl
@[simp] theorem setInten_agenda (v : W32) (s : State) : (setInten v s).agenda = s.agenda := rfl
@[simp] theorem setInten_resp (v : W32) (s : State) : (setInten v s).resp = s.resp := rfl
@[simp] theorem setInten_exc (v : W32) (s : State) : (setInten v s).exc = s.exc := rfl
@[simp] theorem setInten_freeCtr (v : W32) (s : State) : (setInten v s).freeCtr = s.freeCtr := rfl
@[simp] theorem clearInten_cfg (v : W32) (s : State) : (clearInten v s).cfg = s.cfg := rfl
@[simp] theorem clearInten_ctl (v : W32) (s : State) : (clearInten v s).ctl = s.ctl := rfl
@[simp] theorem clearInten_pe (v : W32) (s : State) : (clearInten v s).pe = s.pe := rfl
@[simp] theorem clearInten_env (v : W32) (s : State) : (clearInten v s).env = s.env := rfl
@[simp] theorem clearInten_mem (v : W32) (s : State) : (clearInten v s).mem = s.mem := rfl
@[simp] theorem clearInten_agenda (v : W32) (s : State) : (clearInten v s).agenda = s.agenda := rfl
@[simp] theorem clearInten_resp (v : W32) (s : State) : (clearInten v s).resp = s.resp := rfl
@[simp] theorem clearInten_exc (v : W32) (s : State) : (clearInten v s).exc = s.exc := rfl
@[simp] theorem clearInten_freeCtr (v : W32) (s : State) : (clearInten v s).freeCtr = s.freeCtr := rfl
@[simp] theorem setOvs_cfg (v : W32) (s : State) : (setOvs v s).cfg = s.cfg := rfl
@[simp] theorem setOvs_ctl (v : W32) (s : State) : (setOvs v s).ctl = s.ctl := rfl
@[simp] theorem setOvs_pe (v : W32) (s : State) : (setOvs v s).pe = s.pe := rfl
@[simp] theorem setOvs_env (v : W32) (s : State) : (setOvs v s).env = s.env := rfl
@[simp] theorem setOvs_mem (v : W32) (s : State) : (setOvs v s).mem = s.mem := rfl
@[simp] theorem setOvs_agenda (v : W32) (s : State) : (setOvs v s).agenda = s.agenda := rfl
@[simp] theorem setOvs_resp (v : W32) (s : State) : (setOvs v s).resp = s.resp := rfl
@[simp] theorem setOvs_exc (v : W32) (s : State) : (setOvs v s).exc = s.exc := rfl
@[simp] theorem setOvs_freeCtr (v : W32) (s : State) : (setOvs v s).freeCtr = s.freeCtr := rfl
@[simp] theorem clearOvs_cfg (v : W32) (s : State) : (clearOvs v s).cfg = s.cfg := rfl
@[simp] theorem clearOvs_ctl (v : W32) (s : State) : (clearOvs v s).ctl = s.ctl := rfl
@[simp] theorem clearOvs_pe (v : W32) (s : State) : (clearOvs v s).pe = s.pe := rfl
@[simp] theorem clearOvs_env (v : W32) (s : State) : (clearOvs v s).env = s.env := rfl
@[simp] theorem clearOvs_mem (v : W32) (s : State) : (clearOvs v s).mem = s.mem := rfl
@[simp] theorem clearOvs_agenda (v : W32) (s : State) : (clearOvs v s).agenda = s.agenda := rfl
@[simp] theorem clearOvs_resp (v : W32) (s : State) : (clearOvs v s).resp = s.resp := rfl
@[simp] theorem clearOvs_exc (v : W32) (s : State) : (clearOvs v s).exc = s.exc := rfl
@[simp] theorem clearOvs_freeCtr (v : W32) (s : State) : (clearOvs v s).freeCtr = s.freeCtr := rfl
@[simp] theorem writeSel_cfg (v : W32) (s : State) : (writeSel v s).cfg = s.cfg := rfl
@[simp] theorem writeSel_ctl (v : W32) (s : State) : (writeSel v s).ctl = s.ctl := rfl
@[simp] theorem writeSel_pe (v : W32) (s : State) : (writeSel v s).pe = s.pe := rfl
@[simp] theorem writeSel_env (v : W32) (s : State) : (writeSel v s).env = s.env := rfl
@[simp] theorem writeSel_mem (v : W32) (s : State) : (writeSel v s).mem = s.mem := rfl
@[simp] theorem writeSel_agenda (v : W32) (s : State) : (writeSel v s).agenda = s.agenda := rfl
@[simp] theorem writeSel_resp (v : W32) (s : State) : (writeSel v s).resp = s.resp := rfl
@[simp] theorem writeSel_exc (v : W32) (s : State) : (writeSel v s).exc = s.exc := rfl
@[simp] theorem writeSel_freeCtr (v : W32) (s : State) : (writeSel v s).freeCtr = s.freeCtr := rfl
@[simp] theorem writeUseren_cfg (v : W32) (s : State) : (writeUseren v s).cfg = s.cfg := rfl
@[simp] theorem writeUseren_ctl (v : W32) (s : State) : (writeUseren v s).ctl = s.ctl := rfl
@[simp] theorem writeUseren_pe (v : W32) (s : State) : (writeUseren v s).pe = s.pe := rfl
@[simp] theorem writeUseren_env (v : W32) (s : State) : (writeUseren v s).env = s.env := rfl
@[simp] theorem writeUseren_mem (v : W32) (s : State) : (writeUseren v s).mem = s.mem := rfl
@[simp] theorem writeUseren_agenda (v : W32) (s : State) : (writeUseren v s).agenda = s.agenda := rfl
@[simp] theorem writeUseren_resp (v : W32) (s : State) : (writeUseren v s).resp = s.resp := rfl
@[simp] theorem writeUseren_exc (v : W32) (s : State) : (writeUseren v s).exc = s.exc := rfl
@[simp] theorem writeUseren_freeCtr (v : W32) (s : State) : (writeUseren v s).freeCtr = s.freeCtr := rfl
@[simp] theorem writeCcntLo_cfg (v : W32) (s : State) : (writeCcntLo v s).cfg = s.cfg := rfl
@[simp] theorem writeCcntLo_ctl (v : W32) (s : State) : (writeCcntLo v s).ctl = s.ctl := rfl
@[simp] theorem writeCcntLo_pe (v : W32) (s : State) : (writeCcntLo v s).pe = s.pe := rfl
@[simp] theorem writeCcntLo_env (v : W32) (s : State) : (writeCcntLo v s).env = s.env := rfl
@[simp] theorem writeCcntLo_mem (v : W32) (s : State) : (writeCcntLo v s).mem = s.mem := rfl
@[simp] theorem writeCcntLo_agenda (v : W32) (s : State) : (writeCcntLo v s).agenda = s.agenda := rfl
@[simp] theorem writeCcntLo_resp (v : W32) (s : State) : (writeCcntLo v s).resp = s.resp := rfl
@[simp] theorem writeCcntLo_exc (v : W32) (s : State) : (writeCcntLo v s).exc = s.exc := rfl
@[simp] theorem writeCcntLo_freeCtr (v : W32) (s : State) : (writeCcntLo v s).freeCtr = s.freeCtr := rfl
@[simp] theorem writeCcntHi_cfg (v : W32) (s : State) : (writeCcntHi v s).cfg = s.cfg := rfl
@[simp] theorem writeCcntHi_ctl (v : W32) (s : State) : (writeCcntHi v s).ctl = s.ctl := rfl
@[simp] theorem writeCcntHi_pe (v : W32) (s : State) : (writeCcntHi v s).pe = s.pe := rfl
@[simp] theorem writeCcntHi_env (v : W32) (s : State) : (writeCcntHi v s).env = s.env := rfl
@[simp] theorem writeCcntHi_mem (v : W32) (s : State) : (writeCcntHi v s).mem = s.mem := rfl
@[simp] theorem writeCcntHi_agenda (v : W32) (s : State) : (writeCcntHi v s).agenda = s.agenda := rfl
@[simp] theorem writeCcntHi_resp (v : W32) (s : State) : (writeCcntHi v s).resp = s.resp := rfl
@[simp] theorem writeCcntHi_exc (v : W32) (s : State) : (writeCcntHi v s).exc = s.exc := rfl
@[simp] theorem writeCcntHi_freeCtr (v : W32) (s : State) : (writeCcntHi v s).freeCtr = s.freeCtr := rfl
@[simp] theorem writeCcfilt_cfg (v : W32) (s : State) : (writeCcfilt v s).cfg = s.cfg := rfl
@[simp] theorem writeCcfilt_ctl (v : W32) (s : State) : (writeCcfilt v s).ctl = s.ctl := rfl
@[simp] theorem writeCcfilt_pe (v : W32) (s : State) : (writeCcfilt v s).pe = s.pe := rfl
@[simp] theorem writeCcfilt_env (v : W32) (s : State) : (writeCcfilt v s).env = s.env := rfl
@[simp] theorem writeCcfilt_mem (v : W32) (s : State) : (writeCcfilt v s).mem = s.mem := rfl
@[simp] theorem writeCcfilt_agenda (v : W32) (s : State) : (writeCcfilt v s).agenda = s.agenda := rfl
@[simp] theorem writeCcfilt_resp (v : W32) (s : State) : (writeCcfilt v s).resp = s.resp := rfl
@[simp] theorem writeCcfilt_exc (v : W32) (s : State) : (writeCcfilt v s).exc = s.exc := rfl
@[simp] theorem writeCcfilt_freeCtr (v : W32) (s : State) : (writeCcfilt v s).freeCtr = s.freeCtr := rfl
@[simp] theorem writeCcfilt32_cfg (v : W32) (s : State) : (writeCcfilt32 v s).cfg = s.cfg := rfl
@[simp] theorem writeCcfilt32_ctl (v : W32) (s : State) : (writeCcfilt32 v s).ctl = s.ctl := rfl
@[simp] theorem writeCcfilt32_pe (v : W32) (s : State) : (writeCcfilt32 v s).pe = s.pe := rfl
@[simp] theorem writeCcfilt32_env (v : W32) (s : State) : (writeCcfilt32 v s).env = s.env := rfl
@[simp] theorem writeCcfilt32_mem (v : W32) (s : State) : (writeCcfilt32 v s).mem = s.mem := rfl
@[simp] theorem writeCcfilt32_agenda (v : W32) (s : State) : (writeCcfilt32 v s).agenda = s.agenda := rfl
@[simp] theorem writeCcfilt32_resp (v : W32) (s : State) : (writeCcfilt32 v s).resp = s.resp := rfl
@[simp] theorem writeCcfilt32_exc (v : W32) (s : State) : (writeCcfilt32 v s).exc = s.exc := rfl
@[simp] theorem writeCcfilt32_freeCtr (v : W32) (s : State) : (writeCcfilt32 v s).freeCtr = s.freeCtr := rfl
@[simp] theorem writePmitctrl_cfg (v : W32) (s : State) : (writePmitctrl v s).cfg = s.cfg := rfl
@[simp] theorem writePmitctrl_ctl (v : W32) (s : State) : (writePmitctrl v s).ctl = s.ctl := rfl
@[simp] theorem writePmitctrl_pe (v : W32) (s : State) : (writePmitctrl v s).pe = s.pe := rfl
@[simp] theorem writePmitctrl_env (v : W32) (s : State) : (writePmitctrl v s).env = s.env := rfl
@[simp] theorem writePmitctrl_mem (v : W32) (s : State) : (writePmitctrl v s).mem = s.mem := rfl
@[simp] theorem writePmitctrl_agenda (v : W32) (s : State) : (writePmitctrl v s).agenda = s.agenda := rfl
@[simp] theorem writePmitctrl_resp (v : W32) (s : State) : (writePmitctrl v s).resp = s.resp := rfl
@[simp] theorem writePmitctrl_exc (v : W32) (s : State) : (writePmitctrl v s).exc = s.exc := rfl
@[simp] theorem writePmitctrl_freeCtr (v : W32) (s : State) : (writePmitctrl v s).freeCtr = s.freeCtr := rfl
@[simp] theorem writeCcnt_cfg (v : W64) (s : State) : (writeCcnt v s).cfg = s.cfg := rfl
@[simp] theorem writeCcnt_ctl (v : W64) (s : State) : (writeCcnt v s).ctl = s.ctl := rfl
@[simp] theorem writeCcnt_pe (v : W64) (s : State) : (writeCcnt v s).pe = s.pe := rfl
@[simp] theorem writeCcnt_env (v : W64) (s : State) : (writeCcnt v s).env = s.env := rfl
@[simp] theorem writeCcnt_mem (v : W64) (s : State) : (writeCcnt v s).mem = s.mem := rfl
@[simp] theorem writeCcnt_agenda (v : W64) (s : State) : (writeCcnt v s).agenda = s.agenda := rfl
@[simp] theorem writeCcnt_resp (v : W64) (s : State) : (writeCcnt v s).resp = s.resp := rfl
@[simp] theorem writeCcnt_exc (v : W64) (s : State) : (writeCcnt v s).exc = s.exc := rfl
@[simp] theorem writeCcnt_freeCtr (v : W64) (s : State) : (writeCcnt v s).freeCtr = s.freeCtr := rfl
@[simp] theorem writeEvcnt_cfg (n : Nat) (v : W32) (s : State) : (writeEvcnt n v s).cfg = s.cfg := rfl
@[simp] theorem writeEvcnt_ctl (n : Nat) (v : W32) (s : State) : (writeEvcnt n v s).ctl = s.ctl := rfl
@[simp] theorem writeEvcnt_pe (n : Nat) (v : W32) (s : State) : (writeEvcnt n v s).pe = s.pe := rfl
@[simp] theorem writeEvcnt_env (n : Nat) (v : W32) (s : State) : (writeEvcnt n v s).env = s.env := rfl
@[simp] theorem writeEvcnt_mem (n : Nat) (v : W32) (s : State) : (writeEvcnt n v s).mem = s.mem := rfl
@[simp] theorem writeEvcnt_agenda (n : Nat) (v : W32) (s : State) : (writeEvcnt n v s).agenda = s.agenda := rfl
@[simp] theorem writeEvcnt_resp (n : Nat) (v : W32) (s : State) : (writeEvcnt n v s).resp = s.resp := rfl
@[simp] theorem writeEvcnt_exc (n : Nat) (v : W32) (s : State) : (writeEvcnt n v s).exc = s.exc := rfl
@[simp] theorem writeEvcnt_freeCtr (n : Nat) (v : W32) (s : State) : (writeEvcnt n v s).freeCtr = s.freeCtr := rfl
@[simp] theorem writeEvtype_cfg (n : Nat) (v : W32) (s : State) : (writeEvtype n v s).cfg = s.cfg := rfl
@[simp] theorem writeEvtype_ctl (n : Nat) (v : W32) (s : State) : (writeEvtype n v s).ctl = s.ctl := rfl
@[simp] theorem writeEvtype_pe (n : Nat) (v : W32) (s : State) : (writeEvtype n v s).pe = s.pe := rfl
@[simp] theorem writeEvtype_env (n : Nat) (v : W32) (s : State) : (writeEvtype n v s).env = s.env := rfl
@[simp] theorem writeEvtype_mem (n : Nat) (v : W32) (s : State) : (writeEvtype n v s).mem = s.mem := rfl
@[simp] theorem writeEvtype_agenda (n : Nat) (v : W32) (s : State) : (writeEvtype n v s).agenda = s.agenda := rfl
@[simp] theorem writeEvtype_resp (n : Nat) (v : W32) (s : State) : (writeEvtype n v s).resp = s.resp := rfl
@[simp] theorem writeEvtype_exc (n : Nat) (v : W32) (s : State) : (writeEvtype n v s).exc = s.exc := rfl
@[simp] theorem writeEvtype_freeCtr (n : Nat) (v : W32) (s : State) : (writeEvtype n v s).freeCtr = s.freeCtr := rfl
@[simp] theorem writeEvtype32_cfg (n : Nat) (v : W32) (s : State) : (writeEvtype32 n v s).cfg = s.cfg := rfl
@[simp] theorem writeEvtype32_ctl (n : Nat) (v : W32) (s : State) : (writeEvtype32 n v s).ctl = s.ctl := rfl
@[simp] theorem writeEvtype32_pe (n : Nat) (v : W32) (s : State) : (writeEvtype32 n v s).pe = s.pe := rfl
@[simp] theorem writeEvtype32_env (n : Nat) (v : W32) (s : State) : (writeEvtype32 n v s).env = s.env := rfl
@[simp] theorem writeEvtype32_mem (n : Nat) (v : W32) (s : State) : (writeEvtype32 n v s).mem = s.mem := rfl
@[simp] theorem writeEvtype32_agenda (n : Nat) (v : W32) (s : State) : (writeEvtype32 n v s).agenda = s.agenda := rfl
@[simp] theorem writeEvtype32_resp (n : Nat) (v : W32) (s : State) : (writeEvtype32 n v s).resp = s.resp := rfl
@[simp] theorem writeEvtype32_exc (n : Nat) (v : W32) (s : State) : (writeEvtype32 n v s).exc = s.exc := rfl
@[simp] theorem writeEvtype32_freeCtr (n : Nat) (v : W32) (s : State) : (writeEvtype32 n v s).freeCtr = s.freeCtr := rfl
@[simp] theorem writeXtype_cfg (n : Nat) (v : W32) (s : State) : (writeXtype n v s).cfg = s.cfg := by unfold writeXtype; split <;> rfl
@[simp] theorem writeXtype_ctl (n : Nat) (v : W32) (s : State) : (writeXtype n v s).ctl = s.ctl := by unfold writeXtype; split <;> rfl
@[simp] theorem writeXtype_pe (n : Nat) (v : W32) (s : State) : (writeXtype n v s).pe = s.pe := by unfold writeXtype; split <;> rfl
@[simp] theorem writeXtype_env (n : Nat) (v : W32) (s : State) : (writeXtype n v s).env = s.env := by unfold writeXtype; split <;> rfl
@[simp] theorem writeXtype_mem (n : Nat) (v : W32) (s : State) : (writeXtype n v s).mem = s.mem := by unfold writeXtype; split <;> rfl
@[simp] theorem writeXtype_agenda (n : Nat) (v : W32) (s : State) : (writeXtype n v s).agenda = s.agenda := by unfold writeXtype; split <;> rfl
@[simp] theorem writeXtype_resp (n : Nat) (v : W32) (s : State) : (writeXtype n v s).resp = s.resp := by unfold writeXtype; split <;> rfl
@[simp] theorem writeXtype_exc (n : Nat) (v : W32) (s : State) : (writeXtype n v s).exc = s.exc := by unfold writeXtype; split <;> rfl
@[simp] theorem writeXtype_freeCtr (n : Nat) (v : W32) (s : State) : (writeXtype n v s).freeCtr = s.freeCtr := by unfold writeXtype; split <;> rfl
@[simp] theorem writeXtype32_cfg (n : Nat) (v : W32) (s : State) : (writeXtype32 n v s).cfg = s.cfg := by unfold writeXtype32; split <;> rfl
@[simp] theorem writeXtype32_ctl (n : Nat) (v : W32) (s : State) : (writeXtype32 n v s).ctl = s.ctl := by unfold writeXtype32; split <;> rfl
@[simp] theorem writeXtype32_pe (n : Nat) (v : W32) (s : State) : (writeXtype32 n v s).pe = s.pe := by unfold writeXtype32; split <;> rfl
@[simp] theorem writeXtype32_env (n : Nat) (v : W32) (s : State) : (writeXtype32 n v s).env = s.env := by unfold writeXtype32; split <;> rfl
@[simp] theorem writeXtype32_mem (n : Nat) (v : W32) (s : State) : (writeXtype32 n v s).mem = s.mem := by unfold writeXtype32; split <;> rfl
@[simp] theorem writeXtype32_agenda (n : Nat) (v : W32) (s : State) : (writeXtype32 n v s).agenda = s.agenda := by unfold writeXtype32; split <;> rfl
@[simp] theorem writeXtype32_resp (n : Nat) (v : W32) (s : State) : (writeXtype32 n v s).resp = s.resp := by unfold writeXtype32; split <;> rfl
@[simp] theorem writeXtype32_exc (n : Nat) (v : W32) (s : State) : (writeXtype32 n v s).exc = s.exc := by unfold writeXtype32; split <;> rfl
@[simp] theorem writeXtype32_freeCtr (n : Nat) (v : W32) (s : State) : (writeXtype32 n v s).freeCtr = s.freeCtr := by unfold writeXtype32; split <;> rfl
@[simp] theorem writePmcr_cfg (v : W32) (k : Nat) (s : State) : (writePmcr v k s).cfg = s.cfg := rfl
@[simp] theorem writePmcr_ctl (v : W32) (k : Nat) (s : State) : (writePmcr v k s).ctl = s.ctl := rfl
@[simp] theorem writePmcr_pe (v : W32) (k : Nat) (s : State) : (writePmcr v k s).pe = s.pe := rfl
@[simp] theorem writePmcr_env (v : W32) (k : Nat) (s : State) : (writePmcr v k s).env = s.env := rfl
@[simp] theorem writePmcr_mem (v : W32) (k : Nat) (s : State) : (writePmcr v k s).mem = s.mem := rfl
@[simp] theorem writePmcr_agenda (v : W32) (k : Nat) (s : State) : (writePmcr v k s).agenda = s.agenda := rfl
@[simp] theorem writePmcr_resp (v : W32) (k : Nat) (s : State) : (writePmcr v k s).resp = s.resp := rfl
@[simp] theorem writePmcr_exc (v : W32) (k : Nat) (s : State) : (writePmcr v k s).exc = s.exc := rfl
@[simp] theorem writePmcr_freeCtr (v : W32) (k : Nat) (s : State) : (writePmcr v k s).freeCtr = s.freeCtr := rfl
@[simp] theorem softwareIncrement_cfg (v : W32) (k : Nat) (s : State) : (softwareIncrement v k s).cfg = s.cfg := rfl
@[simp] theorem softwareIncrement_ctl (v : W32) (k : Nat) (s : State) : (softwareIncrement v k s).ctl = s.ctl := rfl
@[simp] theorem softwareIncrement_pe (v : W32) (k : Nat) (s : State) : (softwareIncrement v k s).pe = s.pe := rfl
@[simp] theorem softwareIncrement_env (v : W32) (k : Nat) (s : State) : (softwareIncrement v k s).env = s.env := rfl
@[simp] theorem softwareIncrement_mem (v : W32) (k : Nat) (s : State) : (softwareIncrement v k s).mem = s.mem := rfl
@[simp] theorem softwareIncrement_agenda (v : W32) (k : Nat) (s : State) : (softwareIncrement v k s).agenda = s.agenda := rfl
@[simp] theorem softwareIncrement_resp (v : W32) (k : Nat) (s : State) : (softwareIncrement v k s).resp = s.resp := rfl
@[simp] theorem softwareIncrement_exc (v : W32) (k : Nat) (s : State) : (softwareIncrement v k s).exc = s.exc := rfl
@[simp] theorem softwareIncrement_freeCtr (v : W32) (k : Nat) (s : State) : (softwareIncrement v k s).freeCtr = s.freeCtr := rfl
@[simp] theorem writePmlar_cfg (mm : Bool) (v : W32) (s : State) : (writePmlar mm v s).cfg = s.cfg := by unfold writePmlar; split <;> rfl
@[simp] theorem writePmlar_ctl (mm : Bool) (v : W32) (s : State) : (writePmlar mm v s).ctl = s.ctl := by unfold writePmlar; split <;> rfl
@[simp] theorem writePmlar_pe (mm : Bool) (v : W32) (s : State) : (writePmlar mm v s).pe = s.pe := by unfold writePmlar; split <;> rfl
@[simp] theorem writePmlar_env (mm : Bool) (v : W32) (s : State) : (writePmlar mm v s).env = s.env := by unfold writePmlar; split <;> rfl
@[simp] theorem writePmlar_mem (mm : Bool) (v : W32) (s : State) : (writePmlar mm v s).mem = s.mem := by unfold writePmlar; split <;> rfl
@[simp] theorem writePmlar_agenda (mm : Bool) (v : W32) (s : State) : (writePmlar mm v s).agenda = s.agenda := by unfold writePmlar; split <;> rfl
@[simp] theorem writePmlar_resp (mm : Bool) (v : W32) (s : State) : (writePmlar mm v s).resp = s.resp := by unfold writePmlar; split <;> rfl
@[simp] theorem writePmlar_exc (mm : Bool) (v : W32) (s : State) : (writePmlar mm v s).exc = s.exc := by unfold writePmlar; split <;> rfl
@[simp] theorem writePmlar_freeCtr (mm : Bool) (v : W32) (s : State) : (writePmlar mm v s).freeCtr = s.freeCtr := by unfold writePmlar; split <;> rfl
@[simp] theorem extSwinc_cfg (v : W32) (s : State) : (extSwinc v s).cfg = s.cfg := rfl
@[simp] theorem extSwinc_ctl (v : W32) (s : State) : (extSwinc v s).ctl = s.ctl := rfl
@[simp] theorem extSwinc_pe (v : W32) (s : State) : (extSwinc v s).pe = s.pe := rfl
@[simp] theorem extSwinc_env (v : W32) (s : State) : (extSwinc v s).env = s.env := rfl
@[simp] theorem extSwinc_mem (v : W32) (s : State) : (extSwinc v s).mem = s.mem := rfl
@[simp] theorem extSwinc_agenda (v : W32) (s : State) : (extSwinc v s).agenda = s.agenda := rfl
@[simp] theorem extSwinc_resp (v : W32) (s : State) : (extSwinc v s).resp = s.resp := rfl
@[simp] theorem extSwinc_exc (v : W32) (s : State) : (extSwinc v s).exc = s.exc := rfl
@[simp] theorem latch_cfg (a b c d : W32) (e : BitVec 16) (s : State) : (latch a b c d e s).cfg = s.cfg := rfl
@[simp] theorem latch_ctl (a b c d : W32) (e : BitVec 16) (s : State) : (latch a b c d e s).ctl = s.ctl := rfl
@[simp] theorem latch_pe (a b c d : W32) (e : BitVec 16) (s : State) : (latch a b c d e s).pe = s.pe := rfl
@[simp] theorem latch_env (a b c d : W32) (e : BitVec 16) (s : State) : (latch a b c d e s).env = s.env := rfl
@[simp] theorem latch_mem (a b c d : W32) (e : BitVec 16) (s : State) : (latch a b c d e s).mem = s.mem := rfl
@[simp] theorem latch_agenda (a b c d : W32) (e : BitVec 16) (s : State) : (latch a b c d e s).agenda = s.agenda := rfl
@[simp] theorem latch_resp (a b c d : W32) (e : BitVec 16) (s : State) : (latch a b c d e s).resp = s.resp := rfl
@[simp] theorem latch_exc (a b c d : W32) (e : BitVec 16) (s : State) : (latch a b c d e s).exc = s.exc := rfl
@[simp] theorem markSpmad_cfg (mm : Bool) (s : State) : (markSpmad mm s).cfg = s.cfg := rfl
@[simp] theorem markSpmad_pmu (mm : Bool) (s : State) : (markSpmad mm s).pmu = s.pmu := rfl
@[simp] theorem markSpmad_pe (mm : Bool) (s : State) : (markSpmad mm s).pe = s.pe := rfl
@[simp] theorem markSpmad_env (mm : Bool) (s : State) : (markSpmad mm s).env = s.env := rfl
@[simp] theorem markSpmad_mem (mm : Bool) (s : State) : (markSpmad mm s).mem = s.mem := rfl
@[simp] theorem markSpmad_agenda (mm : Bool) (s : State) : (markSpmad mm s).agenda = s.agenda := rfl
@[simp] theorem markSpmad_resp (mm : Bool) (s : State) : (markSpmad mm s).resp = s.resp := rfl
@[simp] theorem markSpmad_exc (mm : Bool) (s : State) : (markSpmad mm s).exc = s.exc := rfl

/-! ### The values of the PMU writes -/

@[simp] theorem setCnten_pmu (v : W32) (s : State) : (setCnten v s).pmu = { s.pmu with cnten := s.pmu.cnten ||| v } := rfl
@[simp] theorem clearCnten_pmu (v : W32) (s : State) : (clearCnten v s).pmu = { s.pmu with cnten := s.pmu.cnten &&& ~~~v } := rfl
@[simp] theorem setInten_pmu (v : W32) (s : State) : (setInten v s).pmu = { s.pmu with inten := s.pmu.inten ||| v } := rfl
@[simp] theorem clearInten_pmu (v : W32) (s : State) : (clearInten v s).pmu = { s.pmu with inten := s.pmu.inten &&& ~~~v } := rfl
@[simp] theorem setOvs_pmu (v : W32) (s : State) : (setOvs v s).pmu = { s.pmu with ovs := s.pmu.ovs ||| v } := rfl
@[simp] theorem clearOvs_pmu (v : W32) (s : State) : (clearOvs v s).pmu = { s.pmu with ovs := s.pmu.ovs &&& ~~~v } := rfl
@[simp] theorem writeSel_pmu (v : W32) (s : State) : (writeSel v s).pmu = { s.pmu with sel := v.setWidth 5 } := rfl
@[simp] theorem writeCcfilt_pmu (v : W32) (s : State) : (writeCcfilt v s).pmu = { s.pmu with ccfilt := v &&& filterMask s.cfg } := rfl
@[simp] theorem writeCcnt_pmu (v : W64) (s : State) : (writeCcnt v s).pmu = { s.pmu with ccnt := v } := rfl
@[simp] theorem writeEvcnt_pmu (n : Nat) (v : W32) (s : State) : (writeEvcnt n v s).pmu = setEvcnt n v s.pmu := rfl

end Sys2Proof.Machine
end

