-- ==== Sys2Proof/Laws/Ops.lean ====
section
/-! SUPPORT. What the shared operations on registers, counters and exceptions do, each said once. -/
namespace Sys2Proof.Machine

open Sys2Proof

/-! ### General registers -/

/-- A read after a write of the same X register; register 31 stays zero. -/
theorem readX_writeX_same (t : BitVec 5) (v : W64) (s : State) :
    readX (writeX t v s) t = if t = 31 then 0 else v := by
  by_cases h : t.toNat < 31
  · have h31 : t ≠ 31 := by rintro rfl; simp at h
    rw [if_neg h31]
    simp [readX, writeX, h]
  · have : t = 31 := BitVec.eq_of_toNat_eq (by have := t.isLt; simp; omega)
    simp [readX, this]

/-- A write of an X register leaves the others. -/
theorem readX_writeX_other (t u : BitVec 5) (v : W64) (s : State) (h : u ≠ t) :
    readX (writeX t v s) u = readX s u := by
  have : u.toNat ≠ t.toNat := fun e => h (BitVec.eq_of_toNat_eq e)
  unfold readX writeX
  split_ifs with h1 h2 <;> first | rfl | exact Vector.getElem_set_ne ‹_› ‹_› (fun e => this e.symm)

/-- A read after a write of the same R register. -/
theorem readR_writeR_same (t : BitVec 4) (v : W32) (s : State) (h : wfReg32 t = true) :
    readR (writeR t v s) t = v := by
  have h15 : t.toNat < 15 := by
    have := t.isLt
    have : t.toNat ≠ 15 := fun e => by
      have : t = 15 := BitVec.eq_of_toNat_eq e
      simp [this, wfReg32] at h
    omega
  simp [readR, writeR, h15]

/-- A write of an R register leaves the others. -/
theorem readR_writeR_other (t u : BitVec 4) (v : W32) (s : State) (h : u ≠ t) :
    readR (writeR t v s) u = readR s u := by
  have : u.toNat ≠ t.toNat := fun e => h (BitVec.eq_of_toNat_eq e)
  unfold readR writeR
  split_ifs with h1 h2 <;> first | rfl | exact Vector.getElem_set_ne ‹_› ‹_› (fun e => this e.symm)

/-- Reading a register sees only the PE. -/
theorem readX_congr {s s' : State} (h : s'.pe.x = s.pe.x) (t : BitVec 5) : readX s' t = readX s t := by
  simp [readX, h]
theorem readR_congr {s s' : State} (h : s'.pe.r = s.pe.r) (t : BitVec 4) : readR s' t = readR s t := by
  simp [readR, h]

/-! ### Counters -/

@[simp] theorem evcntAt_setEvcnt_same (n : Nat) (v : W32) (p : Pmu) (h : n < 31) : evcntAt (setEvcnt n v p) n = v := by
  simp [evcntAt, setEvcnt, h]

theorem evcntAt_setEvcnt_other (n m : Nat) (v : W32) (p : Pmu) (h : m ≠ n) :
    evcntAt (setEvcnt n v p) m = evcntAt p m := by
  unfold evcntAt setEvcnt
  split_ifs <;> first | rfl | exact Vector.getElem_set_ne ‹_› ‹_› (fun e => h e.symm)

@[simp] theorem evtypeAt_setEvtype_same (n : Nat) (v : W32) (p : Pmu) (h : n < 31) :
    evtypeAt (setEvtype n v p) n = v := by
  simp [evtypeAt, setEvtype, h]

theorem evtypeAt_setEvtype_other (n m : Nat) (v : W32) (p : Pmu) (h : m ≠ n) :
    evtypeAt (setEvtype n v p) m = evtypeAt p m := by
  unfold evtypeAt setEvtype
  split_ifs <;> first | rfl | exact Vector.getElem_set_ne ‹_› ‹_› (fun e => h e.symm)

/-- Writing a counter changes only the counters. -/
theorem setEvcnt_eq (n : Nat) (v : W32) (p : Pmu) : setEvcnt n v p = { p with evcnt := (setEvcnt n v p).evcnt } := by
  unfold setEvcnt; split <;> rfl

/-- Writing a type changes only the types. -/
theorem setEvtype_eq (n : Nat) (v : W32) (p : Pmu) :
    setEvtype n v p = { p with evtype := (setEvtype n v p).evtype } := by
  unfold setEvtype; split <;> rfl

/-- Counters at and above 31 do not exist. -/
@[simp] theorem evcntAt_high (p : Pmu) (n : Nat) (h : 31 ≤ n) : evcntAt p n = 0 := by
  simp [evcntAt, Nat.not_lt.mpr h]
@[simp] theorem evtypeAt_high (p : Pmu) (n : Nat) (h : 31 ≤ n) : evtypeAt p n = 0 := by
  simp [evtypeAt, Nat.not_lt.mpr h]

/-- Something done to the counters below a limit keeps what each single step keeps. -/
theorem forCounters_induct (P : Pmu → Prop) (limit : Nat) (f : Nat → Pmu → Pmu) (p : Pmu) (h0 : P p)
    (hf : ∀ n q, n < limit → P q → P (f n q)) : P (forCounters limit f p) := by
  unfold forCounters
  suffices ∀ (l : List Nat) (q : Pmu), (∀ n ∈ l, n < limit) → P q → P (l.foldl (fun q n => f n q) q) from
    this _ _ (fun n hn => List.mem_range.mp hn) h0
  intro l
  induction l with
  | nil => exact fun q _ hq => hq
  | cons n l ih =>
    intro q hl hq
    exact ih _ (fun m hm => hl m (List.mem_cons_of_mem _ hm)) (hf n q (hl n List.mem_cons_self) hq)

/-- One more counter. -/
theorem forCounters_succ (limit : Nat) (f : Nat → Pmu → Pmu) (p : Pmu) :
    forCounters (limit + 1) f p = f limit (forCounters limit f p) := by
  simp [forCounters, List.range_succ]

/-! ### Masks -/

/-- The bits below n are those below n. -/
theorem getLsbD_lowMask (n i : Nat) (hn : n ≤ 32) : (lowMask n).getLsbD i = (decide (i < n)) := by
  unfold lowMask
  rw [BitVec.getLsbD_ofNat, Nat.testBit_two_pow_sub_one]
  by_cases h : i < n
  · simp [h]; omega
  · simp [h]

/-- EffHPMN() is at most N. -/
theorem effHpmn_le (s : State) : effHpmn s ≤ s.cfg.n.val := by
  unfold effHpmn
  split
  · rename_i h; simp [hpmnLegal] at h; omega
  · omega

/-- AccessibleN() is at most N. -/
theorem accessibleN_le (s : State) : accessibleN s ≤ s.cfg.n.val := by
  unfold accessibleN
  split
  · exact effHpmn_le s
  · exact Nat.le_refl _

end Sys2Proof.Machine
end

