-- ==== Sys2Proof/Laws/Access.lean ====
section
/-! SUPPORT. The three access procedures: when they let an access through, and what a completed access leaves. -/
namespace Sys2Proof.Machine

open Sys2Proof

/-! ### Let through -/

theorem guestView_iff (s : State) : guestView s = true ↔ GuestLevel s := by
  simp [guestView, GuestLevel, and_assoc]

/-- Steps 1 to 4 of the AArch64 procedure fire on nothing. -/
theorem trapCheck64_none {r : A64Reg} {wr : Bool} {t : BitVec 5} {s : State}
    (ha : allocated64 r wr (currentEL s) = true)
    (h0 : currentEL s = .el0 → el0Traps s.pmu.useren wr (el0Class64 r) = false)
    (hn : NotTrapped (r == .pmcr) s) : trapCheck64 r wr t s = none := by
  have h2 : (el2MayTrap s && (tpm2 s || (r == .pmcr && tpmcr2 s))) = false := by
    by_cases g : guestView s = true
    · obtain ⟨a, b⟩ := hn.1 ((guestView_iff s).mp g)
      unfold tpm2 tpmcr2
      by_cases hp : (r == A64Reg.pmcr) = true
      · rw [a, b hp]; simp
      · rw [a, Bool.eq_false_iff.mpr hp]; simp
    · simp [el2MayTrap, g]
  have h3 : el3Traps s = false := by
    unfold el3Traps tpm3
    cases e3 : s.cfg.haveEL3 <;> cases a3 : s.pe.aa32El3 <;> by_cases c3 : currentEL s = .el3 <;> simp_all [NotTrapped]
  have h1 : (currentEL s == .el0 && el0Traps s.pmu.useren wr (el0Class64 r)) = false := by
    by_cases c : currentEL s = .el0
    · simp [h0 c]
    · simp [c]
  simp [trapCheck64, ha, h1, h2, h3]

/-- Steps 1 to 4 of the AArch32 procedure fire on nothing. -/
theorem trapCheck32_none {r : A32Reg} {wr : Bool} {a : Access32} {s : State}
    (ha : allocated32 r wr (currentEL s) = true)
    (h0 : currentEL s = .el0 → el0Traps s.pmu.useren wr (el0Class32 r) = false)
    (hn : NotTrapped (r == .pmcr) s) (h9 : usesC9 r = true → T9Clear s) : trapCheck32 r wr a s = none := by
  have h2 : (el2MayTrap s && (tpm2 s || (r == .pmcr && tpmcr2 s) || (t9Eff s && usesC9 r))) = false := by
    by_cases g : guestView s = true
    · obtain ⟨x, b⟩ := hn.1 ((guestView_iff s).mp g)
      have hc : (r == A32Reg.pmcr && tpmcr2 s) = false := by
        by_cases hp : (r == A32Reg.pmcr) = true
        · unfold tpmcr2; rw [b hp, Bool.and_false]
        · rw [Bool.eq_false_iff.mpr hp, Bool.false_and]
      have ht : (t9Eff s && usesC9 r) = false := by
        by_cases hu : usesC9 r = true
        · rcases h9 hu ((guestView_iff s).mp g) with h | ⟨h1, h2, h3⟩
          · unfold t9Eff hstrEff; rw [h, Bool.false_and, Bool.false_and]
          · unfold t9Eff hstrEff hcrE2h hcrTge; rw [h1, h2, h3]; simp
        · rw [Bool.eq_false_iff.mpr hu, Bool.and_false]
      unfold tpm2
      rw [hc, ht, x]; simp
    · simp [el2MayTrap, g]
  have h3 : el3Traps s = false := by
    unfold el3Traps tpm3
    cases e3 : s.cfg.haveEL3 <;> cases a3 : s.pe.aa32El3 <;> by_cases c3 : currentEL s = .el3 <;> simp_all [NotTrapped]
  have h1 : (currentEL s == .el0 && el0Traps s.pmu.useren wr (el0Class32 r)) = false := by
    by_cases c : currentEL s = .el0
    · simp [h0 c]
    · simp [c]
  simp [trapCheck32, ha, h1, h2, h3]

/-- An AArch64 access that nothing stops performs its body on the counter it names. -/
theorem access64_run {r : A64Reg} {wr : Bool} {t : BitVec 5} {body : Nat → State → State} {s : State}
    (h : trapCheck64 r wr t s = none) (hc : counterOutOfRange s (counterUse64 r) = false) :
    access64 r wr t body s = body (counterIndex s (counterUse64 r)) s := by
  simp [access64, h, counterReach, hc]

/-- An AArch64 access that a check stops takes the exception. -/
theorem access64_trapped {r : A64Reg} {wr : Bool} {t : BitVec 5} {body : Nat → State → State} {s : State} {x : Exc}
    (h : trapCheck64 r wr t s = some x) : access64 r wr t body s = takeException x s := by
  simp [access64, h]

/-- An AArch32 access that nothing stops performs its body on the counter it names. -/
theorem access32_run {r : A32Reg} {wr : Bool} {a : Access32} {zero : State → State} {body : Nat → State → State}
    {s : State} (h : trapCheck32 r wr a s = none) (hc : counterOutOfRange s (counterUse32 r) = false) :
    access32 r wr a zero body s = body (counterIndex s (counterUse32 r)) s := by
  simp [access32, h, counterReach, hc]

/-- An AArch32 access that a check stops takes the exception. -/
theorem access32_trapped {r : A32Reg} {wr : Bool} {a : Access32} {zero : State → State} {body : Nat → State → State}
    {s : State} {x : Exc} (h : trapCheck32 r wr a s = some x) : access32 r wr a zero body s = takeException x s := by
  simp [access32, h]

/-- An access procedure of AArch64 does one of four things. -/
theorem access64_cases (P : State → Prop) {r : A64Reg} {wr : Bool} {t : BitVec 5} {body : Nat → State → State}
    {s : State} (hx : ∀ x, P (takeException x s)) (hb : ∀ n, counterReach s (counterUse64 r) = .run n → P (body n s))
    (hz : P (retire (writeX t 0 s))) (hr : P (retire s)) : P (access64 r wr t body s) := by
  unfold access64
  split
  · exact hx _
  · split
    · exact hb _ ‹_›
    · exact hx _
    · split
      · exact hr
      · exact hz
    · exact hr

/-- An access procedure of AArch32 does one of four things. -/
theorem access32_cases (P : State → Prop) {r : A32Reg} {wr : Bool} {a : Access32} {zero : State → State}
    {body : Nat → State → State} {s : State} (hx : ∀ x, P (takeException x s))
    (hb : ∀ n, counterReach s (counterUse32 r) = .run n → P (body n s))
    (hz : P (retire (zero s))) (hr : P (retire s)) : P (access32 r wr a zero body s) := by
  unfold access32
  split
  · exact hx _
  · split
    · exact hb _ ‹_›
    · exact hx _
    · exact hz
    · exact hr

/-! ### Completed -/

/-- The next address depends on the pc, the Exception level and the Execution states. -/
theorem nextPc_congr {s s' : State} (h0 : s'.pe.pc = s.pe.pc) (h1 : s'.pe.ps = s.pe.ps)
    (h2 : s'.pe.aa32El0 = s.pe.aa32El0) (h3 : s'.pe.aa32El1 = s.pe.aa32El1) (h4 : s'.pe.aa32El2 = s.pe.aa32El2)
    (h5 : s'.pe.aa32El3 = s.pe.aa32El3) : nextPc s' = nextPc s := by
  have hb : inAArch32 s' = inAArch32 s := by
    unfold inAArch32 currentEL
    rw [h1]
    cases s.pe.ps.el <;> assumption
  simp only [nextPc, hb, h0]

/-- The end of an MRS. -/
theorem finishMrs_done (t : BitVec 5) (v : W64) (k : Nat) (s : State) : MrsDone s (finishMrs t v k s) t v := by
  have hp : nextPc (bump k (writeX t v s)) = nextPc s :=
    nextPc_congr (by simp) (by simp) (by simp) (by simp) (by simp) (by simp)
  refine ⟨?_, fun u hu => ?_, ?_, ?_, ?_⟩
  · exact (readX_congr (by simp [finishMrs]) t).trans (readX_writeX_same t v s)
  · exact (readX_congr (by simp [finishMrs]) u).trans (readX_writeX_other t u v s hu)
  · simp only [finishMrs, retire_pe, hp]
    simp only [bump_pe]
    unfold writeX; split <;> rfl
  · simp [finishMrs]
  · simp [SameElsewhere, finishMrs]

/-- The end of an MRC. -/
theorem finishMrc_done (t : BitVec 4) (v : W32) (k : Nat) (s : State) (ht : wfReg32 t = true) :
    MrcDone s (finishMrc t v k s) t v := by
  have hp : nextPc (bump k (writeR t v s)) = nextPc s :=
    nextPc_congr (by simp) (by simp) (by simp) (by simp) (by simp) (by simp)
  refine ⟨?_, fun u hu => ?_, ?_, ?_, ?_⟩
  · exact (readR_congr (by simp [finishMrc]) t).trans (readR_writeR_same t v s ht)
  · exact (readR_congr (by simp [finishMrc]) u).trans (readR_writeR_other t u v s hu)
  · simp only [finishMrc, retire_pe, hp]
    simp only [bump_pe]
    unfold writeR; split <;> rfl
  · simp [finishMrc]
  · simp [SameElsewhere, finishMrc]

/-- The end of a write that changed only the PMU and the free-value counter. -/
theorem retire_done {s s1 : State} (hc : s1.cfg = s.cfg) (ht : s1.ctl = s.ctl) (hp : s1.pe = s.pe)
    (he : s1.env = s.env) (ha : s1.agenda = s.agenda) (hr : s1.resp = s.resp) (hm : s1.mem = s.mem) :
    WriteDone s (retire s1) s1.pmu := by
  refine ⟨rfl, ?_, ?_⟩
  · rw [retire_pe, hp, nextPc_congr (s := s) (by rw [hp]) (by rw [hp]) (by rw [hp]) (by rw [hp]) (by rw [hp]) (by rw [hp])]
  · simp [SameElsewhere, hc, ht, he, ha, hr, hm]

/-! ### The external procedure -/

/-- The views an implementation has. -/
theorem missingView_none {mm : Bool} {s : State} (h : ViewExists mm s) : missingView mm s = none := by
  obtain ⟨h1, h2⟩ := h
  cases mm <;> simp_all [missingView]

/-- With Off, DLK and OSLK not holding, only EPMAD can block. -/
theorem blocked_unlocked {s : State} (h : Unlocked s) :
    blocked .core s = (if allowExternal s then none else some .epmad) ∧ blocked .coreOpen s = none := by
  obtain ⟨h1, h2, h3⟩ := h
  have : doubleLock s = false := by
    rcases h3 with h | h | h <;> simp [doubleLock, h]
  cases h4 : allowExternal s <;> simp [blocked, h1, h2, this, h4]

theorem allowExternal_iff (s : State) : allowExternal s = true ↔ Allowed s := by
  simp [allowExternal, Allowed, epmad, or_assoc]

/-- No column blocks an access with every gate open. -/
theorem blocked_open {mm : Bool} {s : State} (h : GatesOpen mm s) : blocked .core s = none := by
  rw [(blocked_unlocked h.2.1).1, if_pos ((allowExternal_iff s).mpr h.2.2)]

theorem locked_open {mm : Bool} {s : State} (h : SlkOpen mm s) : locked mm s = false := by
  rcases h with h | h | h <;> simp [locked, h]

/-- A read that nothing blocks. -/
theorem extAccess_read {g : Gate} {mm : Bool} {rd : Bool → State → W32 × State} {wr : W32 → State → State} {s : State}
    (hv : ViewExists mm s) (hb : blocked g s = none) :
    extAccess g .read mm rd wr s = .next (respond (.data (rd (locked mm s) s).1) (rd (locked mm s) s).2) := by
  simp [extAccess, missingView_none hv, hb]

/-- A write that nothing blocks. -/
theorem extAccess_write {g : Gate} {v : W32} {mm : Bool} {rd : Bool → State → W32 × State} {wr : W32 → State → State}
    {s : State} (hv : ViewExists mm s) (hb : blocked g s = none) :
    extAccess g (.write v) mm rd wr s = .next (respond .ok (if locked mm s then s else wr v s)) := by
  simp [extAccess, missingView_none hv, hb]

/-- A blocked access. -/
theorem extAccess_blocked {g : Gate} {op : ExtOp} {mm : Bool} {rd : Bool → State → W32 × State}
    {wr : W32 → State → State} {s : State} {b : Blocked} (hv : ViewExists mm s) (hb : blocked g s = some b) :
    extAccess g op mm rd wr s = .next (errorState b mm s) := by
  simp [extAccess, missingView_none hv, hb]

/-! ### Instructions that complete -/

/-- An MRS that nothing stops completes with the value its body computes. -/
theorem mrsRuns {i : Instr} {r : A64Reg} {t : BitVec 5} {v : Nat → State → W64} {k : Nat} {s : State}
    (hx : exec i s = .next (access64 r false t (fun n s => finishMrs t (v n s) k s) s))
    (ht : trapCheck64 r false t s = none) (hc : counterOutOfRange s (counterUse64 r) = false) :
    MrsRuns i s t (v (counterIndex s (counterUse64 r)) s) :=
  ⟨_, hx.trans (by rw [access64_run ht hc]), finishMrs_done t _ k s⟩

/-- An MSR that nothing stops completes with its body. -/
theorem writeRuns64 {i : Instr} {r : A64Reg} {t : BitVec 5} {body : Nat → State → State} {s : State} {p : Pmu}
    (hx : exec i s = .next (access64 r true t body s)) (ht : trapCheck64 r true t s = none)
    (hc : counterOutOfRange s (counterUse64 r) = false)
    (hb : WriteDone s (body (counterIndex s (counterUse64 r)) s) p) : WriteRuns i s p :=
  ⟨_, hx.trans (by rw [access64_run ht hc]), hb⟩

/-- An MRC whose condition passes and that nothing stops completes with the value its body computes. -/
theorem mrcRuns {i : Instr} {r : A32Reg} {c t : BitVec 4} {v : Nat → State → W32} {k : Nat} {s : State}
    (hx : exec i s = mrc32 r c t (fun n s => finishMrc t (v n s) k s) s) (hp : conditionPasses s c = true)
    (hw : wfReg32 t = true) (ht : ∀ a, trapCheck32 r false a s = none)
    (hc : counterOutOfRange s (counterUse32 r) = false) :
    MrcRuns i s t (v (counterIndex s (counterUse32 r)) s) :=
  ⟨_, hx.trans (by unfold mrc32 conditional32; rw [if_pos hp, if_pos hw, access32_run (ht _) hc]),
    finishMrc_done t _ k s hw⟩

/-- An MCR whose condition passes and that nothing stops completes with its body. -/
theorem writeRuns32 {i : Instr} {r : A32Reg} {c t : BitVec 4} {body : Nat → State → State} {s : State} {p : Pmu}
    (hx : exec i s = mcr32 r c t body s) (hp : conditionPasses s c = true) (hw : wfReg32 t = true)
    (ht : ∀ a, trapCheck32 r true a s = none) (hc : counterOutOfRange s (counterUse32 r) = false)
    (hb : WriteDone s (body (counterIndex s (counterUse32 r)) s) p) : WriteRuns i s p :=
  ⟨_, hx.trans (by unfold mcr32 conditional32; rw [if_pos hp, if_pos hw, access32_run (ht _) hc]), hb⟩

/-- A completed write that changed the PMU to p and may have drawn free values. -/
theorem writeDone_pmu (p : Pmu) (s : State) : WriteDone s (retire { s with pmu := p }) p :=
  retire_done rfl rfl rfl rfl rfl rfl rfl

/-- The external answers that change only the PMU. -/
theorem extDone_respond {s s1 : State} {r : Response} (hc : s1.cfg = s.cfg) (ht : s1.ctl = s.ctl) (hp : s1.pe = s.pe)
    (he : s1.env = s.env) (ha : s1.agenda = s.agenda) (hx : s1.exc = s.exc) (hm : s1.mem = s.mem) :
    ExtDone s (respond r s1) r s1.pmu :=
  ⟨rfl, rfl, hc, ht, hp, he, ha, hx, fun a => by rw [respond_mem, hm]⟩

/-! ### EL0 permissions -/

/-- What PMUSERENR denies at EL0. -/
theorem el0Traps_iff (u : UserEn) (wr : Bool) (k : El0Class) : el0Traps u wr k = true ↔ El0Denied u wr k := by
  cases k <;> cases wr <;> simp [el0Traps, El0Denied]

end Sys2Proof.Machine
end

