-- ==== Sys2Proof/Laws/Control.lean ====
section
/-! SUPPORT. The Execution states that SCR_EL3.RW and HCR_EL2.RW give the lower levels: what they depend on, and what keeps
them. -/
namespace Sys2Proof.Machine

open Sys2Proof

/-- What the RW bits ask depends on SCR, HCR and the Execution states alone. -/
theorem settled_congr {s s' : State} (hc : s'.cfg = s.cfg) (hs : s'.ctl.scr = s.ctl.scr) (hh : s'.ctl.hcr = s.ctl.hcr)
    (h0 : s'.pe.aa32El0 = s.pe.aa32El0) (h1 : s'.pe.aa32El1 = s.pe.aa32El1) (h2 : s'.pe.aa32El2 = s.pe.aa32El2)
    (h3 : s'.pe.aa32El3 = s.pe.aa32El3) :
    settledEl2 s' = settledEl2 s ∧ settledEl1 s' = settledEl1 s ∧ settledEl0 s' = settledEl0 s := by
  have hg : scrGoverns s' = scrGoverns s := by simp only [scrGoverns, hc, h3]
  have hr : scrRw s' = scrRw s := by simp only [scrRw, hc, hs]
  have hn : scrNs s' = scrNs s := by simp only [scrNs, hs]
  have hw : hcrRw s' = hcrRw s := by simp only [hcrRw, hcrE2h, hcrTge, hh]
  have e2 : settledEl2 s' = settledEl2 s := by unfold settledEl2; rw [hg, hr, hc, h2]
  have ew : wantEl1 s' = wantEl1 s := by unfold wantEl1; rw [hg, hr, hn, hw, hc, e2]
  have e1 : settledEl1 s' = settledEl1 s := by unfold settledEl1; rw [ew, hc, h1]
  exact ⟨e2, e1, by unfold settledEl0; rw [e1, hc, h0]⟩

theorem rwAgrees_congr {s s' : State} (hc : s'.cfg = s.cfg) (hs : s'.ctl.scr = s.ctl.scr) (hh : s'.ctl.hcr = s.ctl.hcr)
    (h0 : s'.pe.aa32El0 = s.pe.aa32El0) (h1 : s'.pe.aa32El1 = s.pe.aa32El1) (h2 : s'.pe.aa32El2 = s.pe.aa32El2)
    (h3 : s'.pe.aa32El3 = s.pe.aa32El3) : rwAgrees s' = rwAgrees s := by
  obtain ⟨a, b, c⟩ := settled_congr hc hs hh h0 h1 h2 h3
  simp only [rwAgrees, a, b, c, h0, h1, h2]

/-- Once settled, the Execution states agree with the RW bits. -/
theorem rwAgrees_settleExec (s : State) : rwAgrees (settleExec s) = true := by
  have e2 : settledEl2 (settleExec s) = settledEl2 s := by
    show (if s.cfg.haveEL2 && scrGoverns s then pickAArch32 s.cfg .el2 (!scrRw s) else settledEl2 s) = settledEl2 s
    unfold settledEl2
    split <;> rfl
  have ew : wantEl1 (settleExec s) = wantEl1 s := by
    show (if scrGoverns s && !scrRw s then some true
      else if s.cfg.haveEL2 && settledEl2 (settleExec s) then some true
      else if s.cfg.haveEL2 && (!s.cfg.haveEL3 || scrNs s) then some (!hcrRw s)
      else if scrGoverns s then some false else none) = _
    rw [e2]; rfl
  have e1 : settledEl1 (settleExec s) = settledEl1 s := by
    unfold settledEl1
    rw [ew]
    cases h : wantEl1 s with
    | some w => rfl
    | none => simp only [settleExec_pe, settledEl1, h]
  have e0 : settledEl0 (settleExec s) = settledEl0 s := by
    show (if settledEl1 (settleExec s) then pickAArch32 s.cfg .el0 true else settledEl0 s) = settledEl0 s
    rw [e1]
    unfold settledEl0
    split <;> rfl
  simp only [rwAgrees, e2, e1, e0, settleExec_pe, beq_self_eq_true, Bool.and_self]

/-- A write of SCR_EL3, SCR, HCR_EL2 or HCR leaves the Execution states as the RW bits have them. -/
theorem rwAgrees_controlChanged (s : State) : rwAgrees (controlChanged s) = true := by
  rw [← rwAgrees_settleExec s]
  exact rwAgrees_congr (by simp) (by simp) (by simp) (by simp [controlChanged]) (by simp [controlChanged])
    (by simp [controlChanged]) (by simp [controlChanged])

/-- An exception entry keeps the agreement: SCR.NS changes only with EL3 using AArch32, where no RW bit of SCR acts. -/
theorem rwAgrees_entry {s : State} (h : rwAgrees s = true) (x : Exc) : rwAgrees { s with ctl := entryCtl x s } = true := by
  by_cases hc : entryCtl x s = s.ctl
  · rw [hc]; exact h
  · have h3 : s.cfg.haveEL3 = true ∧ s.pe.aa32El3 = true ∧ entryCtl x s = { s.ctl with scr := s.ctl.scr &&& ~~~1#32 } := by
      unfold entryCtl at hc ⊢
      split at hc
      · split at hc
        · rename_i hu
          simp only [if_pos hu, and_true]
          simp only [undefinedModeEL, beq_iff_eq] at hu
          split at hu
          · rename_i g; simp only [Bool.and_eq_true] at g; exact ⟨g.1.2, g.2⟩
          · cases hu
        · exact absurd rfl hc
      · exact absurd rfl hc
    obtain ⟨ha, hb, hd⟩ := h3
    have hg : scrGoverns s = false := by simp [scrGoverns, hb]
    have e2 : settledEl2 { s with ctl := entryCtl x s } = settledEl2 s := by
      show (if s.cfg.haveEL2 && scrGoverns s then pickAArch32 s.cfg .el2 _ else s.pe.aa32El2) = _
      unfold settledEl2
      simp [hg]
    have e1 : settledEl1 { s with ctl := entryCtl x s } = s.pe.aa32El1 := by
      simp only [rwAgrees, Bool.and_eq_true, beq_iff_eq] at h
      by_cases c2 : (s.cfg.haveEL2 && settledEl2 s) = true
      · refine Eq.trans ?_ h.1.2
        have w : wantEl1 s = some true := by simp [wantEl1, hg, c2]
        have w' : wantEl1 { s with ctl := entryCtl x s } = some true := by
          show (if scrGoverns s && _ then some true else if s.cfg.haveEL2 && settledEl2 { s with ctl := entryCtl x s } then
            some true else _) = some true
          rw [e2]; simp [hg, c2]
        simp only [settledEl1, w, w']
      · have w' : wantEl1 { s with ctl := entryCtl x s } = none := by
          show (if scrGoverns s && _ then some true else if s.cfg.haveEL2 && settledEl2 { s with ctl := entryCtl x s } then
            some true else if s.cfg.haveEL2 && (!s.cfg.haveEL3 || scrNs { s with ctl := entryCtl x s }) then _
            else if scrGoverns s then some false else none) = none
          rw [e2]
          simp [hg, ha, hd, scrNs, Bool.eq_false_iff.mpr c2]
        simp only [settledEl1, w']
    simp only [rwAgrees, Bool.and_eq_true, beq_iff_eq] at h ⊢
    refine ⟨⟨e2.trans h.1.1, e1⟩, ?_⟩
    refine Eq.trans ?_ h.2
    unfold settledEl0
    rw [e1, h.1.2]

/-- Execution states that agree with the RW bits are those the statements spell out. -/
theorem followsRw_of_agrees {s : State} (h : rwAgrees s = true) : FollowsRw s := by
  simp only [rwAgrees, Bool.and_eq_true, beq_iff_eq] at h
  obtain ⟨⟨h2, h1⟩, h0⟩ := h
  have lower : ∀ el, elExec s.cfg el = .both → elImplemented s.cfg el = true → canAArch32 s.cfg el = true :=
    fun el hb hi => by simp [canAArch32, hb, hi]
  have pick : ∀ el w, elExec s.cfg el = .both → pickAArch32 s.cfg el w = w := fun el w hb => by simp [pickAArch32, hb]
  refine ⟨fun hg hr => ?_, fun hg hr => ?_, fun he2 ha2 hr hn hb => ?_⟩
  · have g : scrGoverns s = true := by simp [scrGoverns, hg.1, hg.2]
    have rw0 : lowerAArch32 s.cfg = true → scrRw s = false := fun l => by unfold scrRw; rw [hr, l]; rfl
    have e1 : elExec s.cfg .el1 = .both → s.pe.aa32El1 = true := fun hb => by
      have l : lowerAArch32 s.cfg = true := by simp [lowerAArch32, lower _ hb rfl]
      rw [← h1]
      simp [settledEl1, wantEl1, g, rw0 l, pick _ _ hb]
    refine ⟨fun he hb => ?_, e1, fun hb hb0 => ?_⟩
    · have l : lowerAArch32 s.cfg = true := by simp [lowerAArch32, lower _ hb (show s.cfg.haveEL2 = true from he)]
      rw [← h2]
      simp [settledEl2, he, g, rw0 l, pick _ _ hb]
    · rw [← h0]
      simp [settledEl0, h1, e1 hb, pick _ _ hb0]
  · have g : scrGoverns s = true := by simp [scrGoverns, hg.1, hg.2]
    have r : scrRw s = true := by simp [scrRw, hr]
    refine ⟨fun he hb => ?_, fun he hb => ?_, fun hb2 hb hn => ?_⟩
    · rw [← h2]; simp [settledEl2, he, g, r, pick _ _ hb]
    · rw [← h1]; simp [settledEl1, wantEl1, he, g, r, pick _ _ hb]
    · have e2 : (s.cfg.haveEL2 && settledEl2 s) = false := by
        cases he : s.cfg.haveEL2
        · rfl
        · simp [settledEl2, he, g, r, pick _ _ hb2]
      rw [← h1]; simp [settledEl1, wantEl1, g, r, pick _ _ hb, e2, hg.1, show scrNs s = false from hn]
  · have e2 : settledEl2 s = false := h2.trans ha2
    have e3 : (scrGoverns s && !scrRw s) = false := by
      cases g : scrGoverns s
      · rfl
      · simp only [scrGoverns, Bool.and_eq_true, Bool.not_eq_true'] at g
        unfold scrRw; rw [hr g]; rfl
    have en : (!s.cfg.haveEL3 || scrNs s) = true := by
      cases e : s.cfg.haveEL3
      · rfl
      · exact hn e
    have e1 : settledEl1 s = !hcrRw s := by simp [settledEl1, wantEl1, e3, he2, e2, en, pick _ _ hb]
    rw [← h1, e1, Bool.not_eq_true', ← Bool.not_eq_true]
    refine not_congr ?_
    simp only [hcrRw, hcrE2h, hcrTge, Bool.or_eq_true, Bool.and_eq_true]

/-- What the end of a write of SCR_EL3, SCR, HCR_EL2 or HCR does. -/
theorem controlWritten (s : State) (ctl : Ctl) : ControlWritten s (controlChanged (retire { s with ctl := ctl })) ctl := by
  have hn : nextPc { s with ctl := ctl } = nextPc s := rfl
  generalize hq : retire { s with ctl := ctl } = q
  have hc : q.cfg = s.cfg := by rw [← hq]; rfl
  have ht : q.ctl = ctl := by rw [← hq]; rfl
  have hp : q.pe = { s.pe with pc := nextPc s } := by rw [← hq]; rfl
  have hl : currentEL q = currentEL s := by simp only [currentEL, hp]
  have e1 : (relevel (settleExec q)).pe = { q.pe with
      ps := { q.pe.ps with el := (relevel (settleExec q)).pe.ps.el }
      aa32El2 := settledEl2 q, aa32El1 := settledEl1 q, aa32El0 := settledEl0 q } := by
    rw [relevel_pe]; rfl
  have e2 : (controlChanged q).pe = { q.pe with
      ps := { q.pe.ps with el := (controlChanged q).pe.ps.el }
      aa32El0 := (controlChanged q).pe.aa32El0
      aa32El1 := (controlChanged q).pe.aa32El1
      aa32El2 := (controlChanged q).pe.aa32El2
      esr2 := (controlChanged q).pe.esr2 } := by
    simp only [controlChanged, bump_pe]
    rw [hsrUnknown_pe, e1]
  have hel : currentEL (controlChanged q) = currentEL (relevel (settleExec q)) := by
    simp only [controlChanged, currentEL, bump_pe]
    rw [hsrUnknown_pe]
  refine ⟨?_, followsRw_of_agrees (rwAgrees_controlChanged q), fun h3 he ha hm => ?_, fun h => ?_, fun h => ?_⟩
  · have : controlChanged q = { q with pe := (controlChanged q).pe, freeCtr := (controlChanged q).freeCtr } := by
      have ext : ∀ u w : State, u.cfg = w.cfg → u.pmu = w.pmu → u.ctl = w.ctl → u.env = w.env → u.mem = w.mem →
          u.agenda = w.agenda → u.resp = w.resp → u.exc = w.exc → u = { w with pe := u.pe, freeCtr := u.freeCtr } := by
        rintro ⟨⟩ ⟨⟩ h1 h2 h3 h4 h5 h6 h7 h8
        simp only at h1 h2 h3 h4 h5 h6 h7 h8
        simp only [h1, h2, h3, h4, h5, h6, h7, h8]
      exact ext _ _ (by simp) (by simp) (by simp) (by simp) (by simp) (by simp) (by simp) (by simp)
    generalize hf : (controlChanged q).freeCtr = f at this ⊢
    generalize hx : (controlChanged q).pe = x at this e2 ⊢
    rw [this, e2, hp, ← hq]
    rfl
  · rw [hel]
    have hi : inAArch32 (settleExec q) = true := by
      have h3' : currentEL (settleExec q) = .el3 := hl.trans h3
      unfold inAArch32
      rw [h3']
      simpa [usesAArch32, hp] using ha
    simp only [relevel, hi, settleExec_pe, settleExec_cfg, hp, hc, hm, he, ha, Bool.and_self, if_true, currentEL, scrNs,
      settleExec_ctl, ht]
  · rw [hel, ← hl]
    unfold relevel
    rw [if_neg]
    · rfl
    · simp only [settleExec_pe, hp, Bool.and_eq_true]
      rcases h with h | h <;> simp [h]
  · have hu : ¬ ((relevel (settleExec q)).cfg.haveEL2 && (relevel (settleExec q)).pe.aa32El2 &&
        !isSecure (relevel (settleExec q)) && currentEL (relevel (settleExec q)) != .el2) = true := by
      intro c
      apply h
      have hs : isSecure (controlChanged q) = isSecure (relevel (settleExec q)) := by
        simp only [isSecure, hel]
        simp only [secureAt, scrNs, controlChanged_cfg, controlChanged_ctl, relevel_cfg, relevel_ctl, settleExec_cfg,
          settleExec_ctl]
      simp only [Bool.and_eq_true, Bool.not_eq_true', bne_iff_ne, ne_eq] at c
      refine ⟨?_, ?_, ?_, ?_⟩
      · rw [← hc]; simpa using c.1.1.1
      · simpa [controlChanged] using c.1.1.2
      · rw [hs]; exact c.1.2
      · rw [hel]; exact c.2
    simp only [controlChanged, bump_pe]
    unfold hsrUnknown
    rw [if_neg hu, e1, hp]

end Sys2Proof.Machine
end

