-- ==== Sys2Proof/Laws/Counting.lean ====
section
/-! SUPPORT. What the counters do: one increment, an increment of several counters, a clear of several counters, one
increment of the cycle counter. -/
namespace Sys2Proof.Machine

open Sys2Proof

/-! ### One increment -/

theorem getLsbD_maskBit (n i : Nat) (hn : n < 32) : (maskBit n).getLsbD i = decide (n = i) := by
  unfold maskBit
  rw [BitVec.getLsbD_twoPow]
  by_cases h : n = i
  · subst h; simp [hn]
  · simp [h]

/-- An increment changes only the counters and the overflow flags. -/
theorem incrementEvent_eq (n k : Nat) (p : Pmu) :
    incrementEvent n k p = { p with evcnt := (incrementEvent n k p).evcnt, ovs := (incrementEvent n k p).ovs } := by
  unfold incrementEvent
  dsimp only
  split <;> rw [setEvcnt_eq]

theorem incrementEvent_ovs (n k : Nat) (p : Pmu) :
    (incrementEvent n k p).ovs = if 2 ^ 32 ≤ (evcntAt p n).toNat + k then p.ovs ||| maskBit n else p.ovs := by
  unfold incrementEvent
  dsimp only
  split <;> rw [setEvcnt_eq]

theorem incrementEvent_evcnt (n m k : Nat) (p : Pmu) :
    evcntAt (incrementEvent n k p) m = evcntAt (setEvcnt n (BitVec.ofNat 32 ((evcntAt p n).toNat + k)) p) m := by
  unfold incrementEvent
  dsimp only
  split <;> rfl

/-- The counter that is incremented. -/
theorem incrementEvent_same (n k : Nat) (p : Pmu) (h : n < 31) :
    evcntAt (incrementEvent n k p) n = evcntAt p n + BitVec.ofNat 32 k := by
  rw [incrementEvent_evcnt, evcntAt_setEvcnt_same _ _ _ h]
  apply BitVec.eq_of_toNat_eq
  simp

/-- Another counter. -/
theorem incrementEvent_other (n m k : Nat) (p : Pmu) (h : m ≠ n) :
    evcntAt (incrementEvent n k p) m = evcntAt p m := by
  rw [incrementEvent_evcnt, evcntAt_setEvcnt_other _ _ _ _ h]

/-! ### Several counters -/

/-- The counters below a limit that a test hits are incremented by k, each once. -/
theorem counted_forCounters (hit : Nat → Bool) (k limit : Nat) (hl : limit ≤ 31) (p : Pmu) :
    Counted (fun n => n < limit ∧ hit n = true) k p
      (forCounters limit (fun n q => if hit n then incrementEvent n k q else q) p) := by
  induction limit with
  | zero =>
    exact ⟨rfl, fun n _ h => absurd h.1 (by omega), fun n _ => rfl, fun n _ => by simp [forCounters]⟩
  | succ m ih =>
    obtain ⟨h1, h2, h3, h4⟩ := ih (by omega)
    rw [forCounters_succ]
    generalize forCounters m _ p = q at *
    have hm : evcntAt q m = evcntAt p m := h3 m (by omega)
    by_cases hh : hit m = true
    · simp only [hh, if_true]
      refine ⟨?_, fun n hn h => ?_, fun n h => ?_, fun n hn => ?_⟩
      · rw [incrementEvent_eq]
        generalize (incrementEvent m k q).evcnt = a
        generalize (incrementEvent m k q).ovs = b
        rw [h1]
      · by_cases e : n = m
        · subst e; rw [incrementEvent_same _ _ _ hn, hm]
        · rw [incrementEvent_other _ _ _ _ e]; exact h2 n hn ⟨by omega, h.2⟩
      · have e : n ≠ m := by rintro rfl; exact h ⟨by omega, hh⟩
        rw [incrementEvent_other _ _ _ _ e]
        exact h3 n (fun c => h ⟨by omega, c.2⟩)
      · rw [incrementEvent_ovs, hm]
        have hq := h4 n hn
        by_cases e : n = m
        · subst e
          have h0 : q.ovs.getLsbD n = true ↔ p.ovs.getLsbD n = true :=
            hq.trans ⟨fun c => c.elim id (fun d => absurd d.1.1 (by omega)), Or.inl⟩
          split
          · rename_i hc
            rw [BitVec.getLsbD_or, getLsbD_maskBit n n hn]
            exact ⟨fun _ => .inr ⟨⟨by omega, hh⟩, hc⟩, fun _ => by simp⟩
          · rename_i hc
            exact h0.trans ⟨Or.inl, fun c => c.elim id (fun d => absurd d.2 hc)⟩
        · have e1 : (n < m + 1 ∧ hit n = true) ↔ (n < m ∧ hit n = true) := by
            constructor <;> rintro ⟨a, b⟩ <;> exact ⟨by omega, b⟩
          refine Iff.trans ?_ (hq.trans (or_congr_right (and_congr_left' e1.symm)))
          split
          · simp [BitVec.getLsbD_or, getLsbD_maskBit m n (by omega), Ne.symm e]
          · rfl
    · simp only [Bool.eq_false_iff.mpr hh]
      have e1 : ∀ n, (n < m + 1 ∧ hit n = true) ↔ (n < m ∧ hit n = true) := by
        intro n
        constructor
        · rintro ⟨a, b⟩
          have : n ≠ m := fun e => hh (e ▸ b)
          exact ⟨by omega, b⟩
        · rintro ⟨a, b⟩; exact ⟨by omega, b⟩
      refine ⟨h1, fun n hn h => h2 n hn ((e1 n).mp h), fun n h => h3 n (fun c => h ((e1 n).mpr c)), fun n hn => ?_⟩
      exact (h4 n hn).trans (or_congr_right (and_congr_left' (e1 n).symm))

/-- The range that HPMN reserves for EL2 is the one the statements spell out. -/
theorem inEl2Range_iff (s : State) (n : Nat) : (s.cfg.haveEL2 && decide (effHpmn s ≤ n)) = true ↔ InEl2Range s n := by
  rw [Bool.and_eq_true, decide_eq_true_eq]
  refine and_congr_right fun _ => ?_
  unfold effHpmn hpmnLegal hpmn
  split <;> rename_i h <;>
    simp only [Bool.or_eq_true, Bool.and_eq_true, decide_eq_true_eq, beq_iff_eq] at h <;> omega

/-- The enable predicate is the one the statements spell out. -/
theorem enabled_iff (s : State) (n : Nat) : enabled s n = true ↔ CounterEnabled s n := by
  have hr := inEl2Range_iff s n
  unfold enabled CounterEnabled hpme
  rw [Bool.and_eq_true]
  refine and_congr_right fun _ => ?_
  by_cases h : InEl2Range s n
  · rw [if_pos (hr.mpr h)]; exact ⟨fun e => ⟨fun _ => e, fun c => absurd h c⟩, fun c => c.1 h⟩
  · rw [if_neg (fun c => h (hr.mp c))]; exact ⟨fun e => ⟨fun c => absurd c h, fun _ => e⟩, fun c => c.2 h⟩

theorem Counted.congr {h h' : Nat → Prop} (e : ∀ n, h n ↔ h' n) {k : Nat} {p p' : Pmu} (c : Counted h k p p') :
    Counted h' k p p' := by
  have : h = h' := funext fun n => propext (e n)
  exact this ▸ c

/-- A software increment hits the counters it should. -/
theorem softwareIncrement_counted (s : State) (v : W32) (limit : Nat) (hl : limit ≤ 31) :
    Counted (SwHit s v limit) 1 s.pmu (softwareIncrement v limit s).pmu := by
  refine Counted.congr (fun n => ?_) (counted_forCounters (softwareIncrements s v) 1 limit hl s.pmu)
  simp [SwHit, softwareIncrements, enabled_iff, and_assoc]

/-- The counters below a limit are cleared, and nothing else changes. -/
theorem forCounters_clear (limit : Nat) (hl : limit ≤ 31) (p : Pmu) :
    forCounters limit (fun n => setEvcnt n 0) p =
        { p with evcnt := (forCounters limit (fun n => setEvcnt n 0) p).evcnt } ∧
      ∀ n, evcntAt (forCounters limit (fun n => setEvcnt n 0) p) n = if n < limit then 0 else evcntAt p n := by
  induction limit with
  | zero => exact ⟨rfl, fun n => by simp [forCounters]⟩
  | succ k ih =>
    obtain ⟨h1, h2⟩ := ih (by omega)
    rw [forCounters_succ]
    refine ⟨?_, fun n => ?_⟩
    · rw [setEvcnt_eq]
      generalize (setEvcnt k 0 _).evcnt = e
      rw [h1]
    · by_cases hk : n = k
      · subst hk; rw [evcntAt_setEvcnt_same _ _ _ (by omega)]; simp
      · rw [evcntAt_setEvcnt_other _ _ _ _ hk, h2]
        split_ifs <;> first | rfl | omega

/-- A write of PMCR does what its rule says. -/
theorem writePmcr_written (s : State) (v : W32) (limit : Nat) (hl : limit ≤ 31) :
    PmcrWritten s.cfg limit v s.pmu (writePmcr v limit s).pmu := by
  unfold writePmcr PmcrWritten
  by_cases h1 : v.getLsbD 1 = true <;> by_cases h2 : v.getLsbD 2 = true
  all_goals simp only [h1, h2, if_true, if_false, true_and, false_and, Bool.false_eq_true]
  · exact forCounters_clear limit hl (clearCycle { s.pmu with cr := crWritten s.cfg v s.pmu.cr })
  · exact forCounters_clear limit hl { s.pmu with cr := crWritten s.cfg v s.pmu.cr }
  · exact ⟨rfl, fun n => rfl⟩
  · exact ⟨rfl, fun n => rfl⟩

/-! ### The cycle counter -/

/-- One increment of the cycle counter. -/
theorem incrementCycle_counted (lc : Bool) (p : Pmu) : CycleCounted lc p (incrementCycle lc p) := by
  have e : incrementCycle lc p =
      { p with
        ccnt := p.ccnt + 1
        ovs := if p.ccnt.getLsbD (if lc then 63 else 31) && !(p.ccnt + 1).getLsbD (if lc then 63 else 31)
          then p.ovs ||| maskBit 31 else p.ovs } := by
    unfold incrementCycle
    generalize (if lc then 63 else 31) = b
    dsimp only
    split <;> rfl
  rw [e]
  refine ⟨rfl, fun n hn => ?_⟩
  generalize (if lc then 63 else 31) = b
  dsimp only
  split <;> rename_i h <;> simp only [Bool.and_eq_true, Bool.not_eq_true'] at h
  · rw [BitVec.getLsbD_or, getLsbD_maskBit 31 n (by omega)]
    simp only [Bool.or_eq_true, decide_eq_true_eq]
    constructor
    · rintro (a | rfl)
      · exact .inl a
      · exact .inr ⟨rfl, h⟩
    · rintro (a | ⟨rfl, _⟩)
      · exact .inl a
      · exact .inr rfl
  · constructor
    · exact Or.inl
    · rintro (a | ⟨rfl, b⟩)
      · exact a
      · exact absurd b h

end Sys2Proof.Machine
end

