-- ==== Sys2Proof/Laws/Decode.lean ====
section
/-! SUPPORT. The look-ups of the decoder give back what they were given. -/
namespace Sys2Proof

/-- The register a selector picks has that selector. -/
theorem sel_of_a64RegOf {k : Sel64} {r : A64Reg} (h : a64RegOf k = some r) : r.sel = k := by
  unfold a64RegOf at h
  split at h
  · rename_i r' hf
    cases h
    simpa using List.find?_some hf
  · simp only at h
    split at h
    · rename_i hc
      simp only [Bool.and_eq_true, beq_iff_eq] at hc
      obtain ⟨⟨⟨⟨h1, h2⟩, h3⟩, h4⟩, h5⟩ := hc
      obtain ⟨op0, op1, crn, crm, op2⟩ := k
      simp only at h1 h2 h3 h4 h5 h
      subst h1 h2 h3
      cases h
      cases h6 : crm.getLsbD 2 <;>
        simp only [Bool.false_eq_true, if_false, if_true, A64Reg.sel, Sel64.mk.injEq, true_and] <;> clear h5 <;>
        revert h4 h6 <;> revert crm op2 <;> decide
    · cases h

/-- The same in AArch32. -/
theorem sel_of_a32RegOf {k : Sel32} {r : A32Reg} (h : a32RegOf k = some r) : r.sel = k := by
  unfold a32RegOf at h
  split at h
  · rename_i r' hf
    cases h
    simpa using List.find?_some hf
  · simp only at h
    split at h
    · rename_i hc
      simp only [Bool.and_eq_true, beq_iff_eq] at hc
      obtain ⟨⟨⟨h2, h3⟩, h4⟩, h5⟩ := hc
      obtain ⟨op1, crn, crm, op2⟩ := k
      simp only at h2 h3 h4 h5 h
      subst h2 h3
      cases h
      cases h6 : crm.getLsbD 2 <;>
        simp only [Bool.false_eq_true, if_false, if_true, A32Reg.sel, Sel32.mk.injEq, true_and] <;> clear h5 <;>
        revert h4 h6 <;> revert crm op2 <;> decide
    · cases h

/-- The instruction of a register and its operands has that form. -/
theorem form_of_a64Instr {r : A64Reg} {wr : Bool} {t : BitVec 5} {i : Instr} (h : a64Instr r wr t = some i) :
    i.form = .a64 r wr t := by
  cases r <;> cases wr <;> simp only [a64Instr, Option.some.injEq, reduceCtorEq] at h <;> subst h <;> rfl

theorem form_of_a32Instr {r : A32Reg} {wr : Bool} {c t : BitVec 4} {i : Instr} (h : a32Instr r wr c t = some i) :
    i.form = .a32 r wr c t := by
  cases r <;> cases wr <;> simp only [a32Instr, Option.some.injEq, reduceCtorEq] at h <;> subst h <;> rfl

theorem request_of_word {q : PcsrOp} {op : ExtOp} (h : q.word = some op) : op.request = q := by
  cases q <;> simp [PcsrOp.word] at h <;> subst h <;> rfl

theorem form_of_extInstr {r : ExtReg} {q : PcsrOp} {mm : Bool} {i : Instr} (h : extInstr r q mm = some i) :
    i.form = .ext r q mm := by
  cases r
  case pmpcsrLo alt => simp only [extInstr, Option.some.injEq] at h; subst h; rfl
  all_goals
    simp only [extInstr, Option.map_eq_some_iff] at h
    obtain ⟨op, h1, rfl⟩ := h
    simp only [Instr.form, request_of_word h1]

end Sys2Proof
end

