-- ==== Sys2Proof/Laws/Memory.lean ====
section
/-! SUPPORT. The instruction memory: a read after a write, and the canonical form. -/
namespace Sys2Proof.Machine

open Sys2Proof

/-- A byte read after a write of a byte: the byte written at its address, as before elsewhere. -/
theorem memRead_memWrite (m : List Host.Cell) (a b : Nat) (v : Byte) :
    memRead (memWrite m a v) b = if b = a then some v else memRead m b := by
  induction m with
  | nil => simp [memWrite, memRead, eq_comm]
  | cons e m ih =>
    obtain ⟨k, c⟩ := e
    simp only [memWrite]
    split_ifs with h1 h2 h3 h4 <;> simp_all [memRead] <;> (try split_ifs) <;> first | rfl | omega

/-- A bound below every address of a memory is below every address after a write above it. -/
theorem all_memWrite (m : List Host.Cell) (k a : Nat) (v : Byte) (h : m.all (fun e => decide (k < e.1)) = true)
    (ha : k < a) : (memWrite m a v).all (fun e => decide (k < e.1)) = true := by
  induction m with
  | nil => simpa [memWrite] using ha
  | cons e m ih =>
    obtain ⟨j, c⟩ := e
    simp only [List.all_cons, Bool.and_eq_true, decide_eq_true_eq] at h
    obtain ⟨hj, hm⟩ := h
    simp only [memWrite]
    split_ifs <;> simp only [List.all_cons, Bool.and_eq_true, decide_eq_true_eq]
    · exact ⟨ha, hj, hm⟩
    · exact ⟨ha, hm⟩
    · exact ⟨hj, ih hm⟩

/-- A write keeps the canonical form. -/
theorem memWf_memWrite (m : List Host.Cell) (a : Nat) (v : Byte) (h : memWf m = true) (ha : a < 2 ^ 64) :
    memWf (memWrite m a v) = true := by
  induction m with
  | nil => simpa [memWrite, memWf] using ha
  | cons e m ih =>
    obtain ⟨k, c⟩ := e
    simp only [memWf, Bool.and_eq_true, decide_eq_true_eq] at h
    obtain ⟨⟨hk, hall⟩, hm⟩ := h
    simp only [memWrite]
    split_ifs with h1 h2
    · simp only [memWf, List.all_cons, Bool.and_eq_true, decide_eq_true_eq]
      refine ⟨⟨ha, h1, ?_⟩, ⟨hk, hall⟩, hm⟩
      simp only [List.all_eq_true, decide_eq_true_eq] at hall ⊢
      exact fun x hx => h1.trans (hall x hx)
    · subst h2
      simp only [memWf, Bool.and_eq_true, decide_eq_true_eq]
      exact ⟨⟨hk, hall⟩, hm⟩
    · simp only [memWf, Bool.and_eq_true, decide_eq_true_eq]
      exact ⟨⟨hk, all_memWrite m k a v hall (by omega)⟩, ih hm⟩

/-- Placing bytes keeps the canonical form. -/
theorem memWf_memWriteBytes (bs : List Byte) : ∀ (m : List Host.Cell) (a : W64), memWf m = true →
    memWf (memWriteBytes m a bs) = true := by
  induction bs with
  | nil => exact fun m a h => h
  | cons b bs ih => exact fun m a h => ih _ _ (memWf_memWrite m _ b h a.isLt)

end Sys2Proof.Machine
end

