-- ==== Sys2Proof/Laws/Registers.lean ====
section
/-! SUPPORT. What the values read from the registers are, bit by bit, and what a write of one counter leaves. -/
namespace Sys2Proof.Machine

open Sys2Proof

/-- There are at most 31 accessible counters. -/
theorem accessibleN_le_31 (s : State) : accessibleN s ≤ 31 := by
  have := accessibleN_le s
  have := s.cfg.n.isLt
  omega

/-- A bit of the word of implemented events. -/
theorem getLsbD_eventMask (c : Config) (base i : Nat) (hi : i < 32) :
    (eventMask c base).getLsbD i = eventSupported c (base + i) := by
  unfold eventMask
  have key : ∀ m, m ≤ 32 → ∀ i, i < 32 →
      ((List.range m).foldl (fun m i => if eventSupported c (base + i) then m ||| maskBit i else m) (0 : W32)).getLsbD i =
        (decide (i < m) && eventSupported c (base + i)) := by
    intro m
    induction m with
    | zero => intro _ i hi; simp
    | succ k ih =>
      intro hk i hi
      rw [List.range_succ, List.foldl_append]
      simp only [List.foldl_cons, List.foldl_nil]
      have := ih (by omega) i hi
      by_cases e : i = k
      · subst e
        split <;> simp_all [maskBit]
      · have hlt : decide (i < k) = decide (i < k + 1) := by
          have : i < k ↔ i < k + 1 := by omega
          simp only [this]
        split
        · rw [BitVec.getLsbD_or, this, hlt]
          simp [maskBit, BitVec.getLsbD_twoPow, show ¬ k = i from fun x => e x.symm]
        · rw [this, hlt]
  rw [key 32 (by omega) i hi]
  simp [hi]

/-- The event identification words name exactly the implemented events. -/
theorem ceidWord_eventMask (c : Config) (base : Nat) :
    CeidWord c base (eventMask c (0x4000 + base) ++ eventMask c base) := by
  intro i hi
  rw [BitVec.getLsbD_append, BitVec.getLsbD_append, if_pos hi, if_neg (by omega), getLsbD_eventMask _ _ _ hi,
    Nat.add_sub_cancel_left, getLsbD_eventMask _ _ _ hi]
  simp [eventSupported]

theorem selReads_selValue (s : State) : SelReads s (selValue s) := by
  intro h
  unfold selValue selected
  rw [if_neg]
  rcases h with h | h
  · simp; intro; omega
  · simp [h]

theorem eventOpen_iff (c : Config) (e : BitVec 16) : eventOpen c e = true ↔ OpenEvent c e := by
  simp [eventOpen, OpenEvent, and_assoc]

theorem typeReads_evtypeValue (s : State) (n : Nat) : TypeReads s n (evtypeValue s n) := by
  unfold TypeReads evtypeValue
  simp only
  split
  · rename_i h
    refine ⟨?_, fun e => absurd ((eventOpen_iff _ _).mp h) e⟩
    apply BitVec.eq_of_getLsbD_eq
    intro i hi
    simp only [BitVec.getLsbD_extractLsb', BitVec.getLsbD_append, hi, decide_true, Bool.true_and]
    rw [if_neg (by omega)]
    simp [hi]
  · exact ⟨rfl, fun _ => rfl⟩

theorem pmcrNReads_nRead (s : State) : PmcrNReads s (nRead s) := by
  have g : guestView s = true ↔ GuestLevel s := by simp [guestView, GuestLevel, and_assoc]
  refine ⟨fun h => ?_, fun h hl => ?_⟩
  · rw [← g, Bool.not_eq_true] at h
    simp [nRead, h]
  · rw [← g] at h
    simp [nRead, h, hpmnRead, hl]

/-- A write of one event counter. -/
theorem evcntSet_setEvcnt (n : Nat) (v : W32) (p : Pmu) (h : n < 31) : EvcntSet n v p (setEvcnt n v p) :=
  ⟨setEvcnt_eq n v p, evcntAt_setEvcnt_same n v p h, fun m hm => evcntAt_setEvcnt_other n m v p hm⟩

/-- A write of one type register. -/
theorem evtypeSet_setEvtype (n : Nat) (v : W32) (p : Pmu) (h : n < 31) : EvtypeSet n v p (setEvtype n v p) :=
  ⟨setEvtype_eq n v p, evtypeAt_setEvtype_same n v p h, fun m hm => evtypeAt_setEvtype_other n m v p hm⟩

/-- The bits of a mask of the cycle counter and the counters below n. -/
theorem getLsbD_counterMask (n i : Nat) (hn : n ≤ 32) (hi : i < 32) :
    BitVec.getLsbD (0x80000000 ||| lowMask n : W32) i = true ↔ i = 31 ∨ i < n := by
  have h : ∀ j, j < 32 → BitVec.getLsbD (0x80000000 : W32) j = decide (j = 31) := by decide
  rw [BitVec.getLsbD_or, h i hi, getLsbD_lowMask n i hn]
  simp

/-- Within, bit by bit. -/
theorem within_iff (v m : W32) : Within v m ↔ ∀ i, i < 32 → v.getLsbD i = true → m.getLsbD i = true := by
  unfold Within
  constructor
  · intro h i hi hv
    by_contra c
    have e : (v &&& ~~~m).getLsbD i = true := by
      rw [BitVec.getLsbD_and, BitVec.getLsbD_not, hv, Bool.eq_false_iff.mpr c]
      simp [hi]
    rw [h] at e
    simp at e
  · intro h
    apply BitVec.eq_of_getLsbD_eq
    intro i hi
    rw [BitVec.getLsbD_and, BitVec.getLsbD_not]
    cases hv : v.getLsbD i
    · simp
    · rw [h i hi hv]; simp

/-- The counter number the counter check lets an access run on. -/
theorem counterReach_run {s : State} {u : CounterUse} {m : Nat} (h : counterReach s u = .run m) :
    u = .none ∨ m < accessibleN s ∨ (m = 31 ∧ u = .selectedType) := by
  unfold counterReach at h
  split at h
  · unfold outOfRangeReach at h
    split at h <;> first | cases h | skip
    · split at h
      · cases h
      · cases h; exact .inr (.inl (Nat.mod_lt _ (by omega)))
    · split at h
      · cases h
      · cases h; exact .inr (.inl (Nat.mod_lt _ (by omega)))
    · exact .inr (.inr ⟨rfl, rfl⟩)
  · rename_i ho
    cases h
    cases u with
    | none => exact .inl rfl
    | direct n => exact .inr (.inl (by simpa [counterOutOfRange, counterIndex] using ho))
    | selectedCount => exact .inr (.inl (by simpa [counterOutOfRange, counterIndex] using ho))
    | selectedType =>
      by_cases c : selected s = 31
      · exact .inr (.inr ⟨by simpa [counterIndex] using c, rfl⟩)
      · refine .inr (.inl ?_)
        by_contra d
        apply ho
        simp only [counterOutOfRange, Bool.and_eq_true, decide_eq_true_eq]
        exact ⟨Nat.not_lt.mp d, by simpa using c⟩

end Sys2Proof.Machine
end

