-- ==== Sys2Proof/Laws/Reset.lean ====
section
/-! SUPPORT. What the resets leave, field by field. -/
namespace Sys2Proof.Machine

open Sys2Proof

/-! ### Warm reset -/

@[simp] theorem warmReset_cfg (i : ExecState) (s : State) : (warmReset i s).cfg = s.cfg := by
  simp only [warmReset, bump_cfg, settleExec_cfg]
@[simp] theorem warmReset_pmu (i : ExecState) (s : State) : (warmReset i s).pmu = warmPmu i s := by
  simp only [warmReset, bump_pmu, settleExec_pmu]
@[simp] theorem warmReset_ctl (i : ExecState) (s : State) : (warmReset i s).ctl = warmCtl i s := by
  simp only [warmReset, bump_ctl, settleExec_ctl]
/-- The PE after a Warm reset: the Execution states of the lower levels are those the RW bits give. -/
theorem warmReset_pe (i : ExecState) (s : State) : (warmReset i s).pe = { resetPe i s with
    aa32El0 := (warmReset i s).pe.aa32El0
    aa32El1 := (warmReset i s).pe.aa32El1
    aa32El2 := (warmReset i s).pe.aa32El2 } := by
  simp only [warmReset, bump_pe, settleExec]
@[simp] theorem warmReset_env (i : ExecState) (s : State) :
    (warmReset i s).env = { s.env with retired := false } := by
  simp only [warmReset, bump_env, settleExec_env]
@[simp] theorem warmReset_mem (i : ExecState) (s : State) : (warmReset i s).mem = s.mem := by
  simp only [warmReset, bump_mem, settleExec_mem]
@[simp] theorem warmReset_agenda (i : ExecState) (s : State) : (warmReset i s).agenda = s.agenda := by
  simp only [warmReset, bump_agenda, settleExec_agenda]
@[simp] theorem warmReset_resp (i : ExecState) (s : State) : (warmReset i s).resp = s.resp := by
  simp only [warmReset, bump_resp, settleExec_resp]
@[simp] theorem warmReset_exc (i : ExecState) (s : State) : (warmReset i s).exc = none := by
  simp only [warmReset, bump_exc, settleExec_exc]

@[simp] theorem warmPmu_e (i : ExecState) (s : State) : (warmPmu i s).cr.e = false := by simp only [warmPmu]
@[simp] theorem warmPmu_slk (i : ExecState) (s : State) : (warmPmu i s).slk = s.pmu.slk := by simp only [warmPmu]
@[simp] theorem warmPmu_ime (i : ExecState) (s : State) : (warmPmu i s).ime = s.pmu.ime := by simp only [warmPmu]
@[simp] theorem warmPmu_pcsr (i : ExecState) (s : State) : (warmPmu i s).pcsr = s.pmu.pcsr := by simp only [warmPmu]
@[simp] theorem warmPmu_cid1 (i : ExecState) (s : State) : (warmPmu i s).cid1 = s.pmu.cid1 := by simp only [warmPmu]
@[simp] theorem warmPmu_cid2 (i : ExecState) (s : State) : (warmPmu i s).cid2 = s.pmu.cid2 := by simp only [warmPmu]
@[simp] theorem warmPmu_vid (i : ExecState) (s : State) : (warmPmu i s).vid = s.pmu.vid := by simp only [warmPmu]
@[simp] theorem warmCtl_oslk (i : ExecState) (s : State) : (warmCtl i s).oslk = s.ctl.oslk := by simp only [warmCtl]
@[simp] theorem warmCtl_spmad (i : ExecState) (s : State) : (warmCtl i s).spmad = s.ctl.spmad := by simp only [warmCtl]
@[simp] theorem warmCtl_corenpdrq (i : ExecState) (s : State) : (warmCtl i s).corenpdrq = s.ctl.corenpdrq := by
  simp only [warmCtl]
@[simp] theorem resetPe_ps (i : ExecState) (s : State) : (resetPe i s).ps = resetProc i s := by simp only [resetPe]
@[simp] theorem resetPe_pc (i : ExecState) (s : State) :
    (resetPe i s).pc = if i == .aarch32 then s.cfg.resetVector32.setWidth 64 else s.cfg.resetVector64 := by
  simp only [resetPe]

/-! ### Cold reset -/

@[simp] theorem coldReset_cfg (i : ExecState) (s : State) : (coldReset i s).cfg = s.cfg := by
  simp only [coldReset, coldPart, bump_cfg, warmReset_cfg]
@[simp] theorem coldReset_pe (i : ExecState) (s : State) : (coldReset i s).pe = (warmReset i s).pe := by
  simp only [coldReset, coldPart, bump_pe]
@[simp] theorem coldReset_mem (i : ExecState) (s : State) : (coldReset i s).mem = s.mem := by
  simp only [coldReset, coldPart, bump_mem, warmReset_mem]
@[simp] theorem coldReset_agenda (i : ExecState) (s : State) : (coldReset i s).agenda = s.agenda := by
  simp only [coldReset, coldPart, bump_agenda, warmReset_agenda]

/-- The PMU after a Cold reset is the one after a Warm reset but for the PC-sample registers and IME. -/
theorem coldReset_pmu (i : ExecState) (s : State) :
    (coldReset i s).pmu = { warmPmu i s with
      pcsr := (coldReset i s).pmu.pcsr
      cid1 := (coldReset i s).pmu.cid1
      cid2 := (coldReset i s).pmu.cid2
      vid := (coldReset i s).pmu.vid
      ime := if s.cfg.itctrlDomain == .core then false else s.pmu.ime } := by
  simp only [coldReset, coldPart, bump_pmu, warmReset_pmu, warmReset_cfg, warmPmu_ime]

/-- The context registers after a Cold reset are those after a Warm reset but for the OS Lock, SPMAD and CORENPDRQ. -/
theorem coldReset_ctl (i : ExecState) (s : State) :
    (coldReset i s).ctl = { warmCtl i s with
      oslk := true
      corenpdrq := (coldReset i s).ctl.corenpdrq
      spmad := false } := by
  simp only [coldReset, coldPart, bump_ctl, warmReset_ctl]

/-! ### The bits of MDCR_EL2 and MDCR_EL3 after a Warm reset -/

/-- A masked word is clear where the mask is. -/
theorem getLsbD_masked {n : Nat} (v m : BitVec n) (i : Nat) (h : m.getLsbD i = false) : (v &&& m).getLsbD i = false := by
  rw [BitVec.getLsbD_and, h, Bool.and_false]

/-- A number below 32 sets no bit above 4. -/
theorem getLsbD_small (n i : Nat) (h : n < 32) (hi : 5 ≤ i) : (BitVec.ofNat 32 n).getLsbD i = false := by
  rw [BitVec.getLsbD_ofNat]
  have : n.testBit i = false :=
    Nat.testBit_lt_two_pow (Nat.lt_of_lt_of_le (show n < 2 ^ 5 from h) (Nat.pow_le_pow_right (by omega) hi))
  simp [this]

/-- The low five bits, where the rest of the word leaves them free. -/
theorem low5_or (h : Nat) (v m : W32) (hm : m &&& 0x1F = 0) (hh : h < 32) :
    (((v &&& m) ||| BitVec.ofNat 32 h).extractLsb' 0 5).toNat = h := by
  have e : ((v &&& m) ||| BitVec.ofNat 32 h).extractLsb' 0 5 = BitVec.ofNat 5 h := by
    apply BitVec.eq_of_getLsbD_eq
    intro i hi
    have hmi : m.getLsbD i = false := by
      have h1 : ∀ j, j < 5 → BitVec.getLsbD (0x1F : W32) j = true := by decide
      have e : (m &&& 0x1F).getLsbD i = false := by rw [hm]; exact BitVec.getLsbD_zero
      rwa [BitVec.getLsbD_and, h1 i hi, Bool.and_true] at e
    rw [BitVec.getLsbD_extractLsb', BitVec.getLsbD_or, Nat.zero_add, getLsbD_masked _ _ _ hmi, BitVec.getLsbD_ofNat,
      BitVec.getLsbD_ofNat]
    simp [hi, show i < 32 by omega]
  rw [e, BitVec.toNat_ofNat, Nat.mod_eq_of_lt hh]

/-- HPMN = N, HPMD = SPME = EPMAD = 0. -/
theorem warmCtl_bits (i : ExecState) (s : State) :
    ((warmCtl i s).mdcr2.extractLsb' 0 5).toNat = s.cfg.n.val ∧ (warmCtl i s).mdcr2.getLsbD 17 = false ∧
      (warmCtl i s).mdcr3.getLsbD 17 = false ∧ (warmCtl i s).mdcr3.getLsbD 21 = false := by
  have hn := s.cfg.n.isLt
  simp only [warmCtl]
  refine ⟨low5_or _ _ _ (by cases i <;> decide) hn, ?_, ?_, ?_⟩
  · rw [BitVec.getLsbD_or, getLsbD_small _ _ hn (by omega), getLsbD_masked _ _ _ (by cases i <;> decide)]; rfl
  · exact getLsbD_masked _ _ _ (by cases i <;> decide)
  · exact getLsbD_masked _ _ _ (by cases i <;> decide)

end Sys2Proof.Machine
end

