-- ==== Sys2Proof/Laws/Shapes.lean ====
section
/-! SUPPORT. Every meaning is one access procedure with its register; the gate of every external register. -/
namespace Sys2Proof.Machine

open Sys2Proof

/-- An MRS or MSR is the AArch64 access procedure of its register. -/
theorem exec_a64 {i : Instr} {r : A64Reg} {wr : Bool} {t : BitVec 5} (s : State) (h : i.form = .a64 r wr t) :
    ∃ body, exec i s = .next (access64 r wr t body s) := by
  cases i <;> simp only [Instr.form, Form.a64.injEq, reduceCtorEq] at h
  all_goals
    obtain ⟨rfl, rfl, rfl⟩ := h
    simp only [exec,
      execMrsPmcr, execMsrPmcr, execMrsPmcntenset, execMsrPmcntenset, execMrsPmcntenclr, execMsrPmcntenclr,
      execMrsPmovsclr, execMsrPmovsclr, execMsrPmswinc, execMrsPmselr, execMsrPmselr, execMrsPmceid0,
      execMrsPmceid1, execMrsPmccntr, execMsrPmccntr, execMrsPmxevtyper, execMsrPmxevtyper, execMrsPmxevcntr,
      execMsrPmxevcntr, execMrsPmuserenr, execMsrPmuserenr, execMrsPmintenset, execMsrPmintenset,
      execMrsPmintenclr, execMsrPmintenclr, execMrsPmovsset, execMsrPmovsset, execMrsPmccfiltr, execMsrPmccfiltr,
      execMrsPmevcntrn, execMsrPmevcntrn, execMrsPmevtypern, execMsrPmevtypern]
    exact ⟨_, rfl⟩

/-- An MRC or MCR is the AArch32 access procedure of its register. -/
theorem exec_a32 {i : Instr} {r : A32Reg} {wr : Bool} {c t : BitVec 4} (s : State) (h : i.form = .a32 r wr c t) :
    ∃ body, exec i s =
      conditional32 c (wfReg32 t)
        (access32 r wr (.single r.sel wr c t) (if wr then id else writeR t 0) body) s := by
  cases i <;> simp only [Instr.form, Form.a32.injEq, reduceCtorEq] at h
  all_goals
    obtain ⟨rfl, rfl, rfl, rfl⟩ := h
    simp only [exec, mrc32, mcr32, if_true, if_false, Bool.false_eq_true,
      execMrcPmcr, execMcrPmcr, execMrcPmcntenset, execMcrPmcntenset, execMrcPmcntenclr, execMcrPmcntenclr,
      execMrcPmovsr, execMcrPmovsr, execMcrPmswinc, execMrcPmselr, execMcrPmselr, execMrcPmceid0, execMrcPmceid1,
      execMrcPmccntr, execMcrPmccntr, execMrcPmxevtyper, execMcrPmxevtyper, execMrcPmxevcntr, execMcrPmxevcntr,
      execMrcPmuserenr, execMcrPmuserenr, execMrcPmintenset, execMcrPmintenset, execMrcPmintenclr,
      execMcrPmintenclr, execMrcPmovsset, execMcrPmovsset, execMrcPmceid2, execMrcPmceid3, execMrcPmccfiltr,
      execMcrPmccfiltr, execMrcPmevcntrn, execMcrPmevcntrn, execMrcPmevtypern, execMcrPmevtypern]
    exact ⟨_, rfl⟩

/-- MRRC and MCRR are the AArch32 access procedure of PMCCNTR. -/
theorem exec_a32Wide {i : Instr} {wr : Bool} {c t t2 : BitVec 4} (s : State) (h : i.form = .a32Wide wr c t t2) :
    ∃ zero body, exec i s =
      conditional32 c (wfReg32 t && wfReg32 t2 && (wr || t != t2))
        (access32 .pmccntr wr (.wide wr c t t2) zero body) s := by
  cases i <;> simp only [Instr.form, Form.a32Wide.injEq, reduceCtorEq] at h
  all_goals
    obtain ⟨rfl, rfl, rfl, rfl⟩ := h
    simp only [exec, execMrrcPmccntr, execMcrrPmccntr, Bool.true_or, Bool.and_true, Bool.false_or]
    exact ⟨_, _, rfl⟩

/-- A 32-bit external access, but one of PMLAR, is the external access procedure with the register's gate. -/
theorem exec_ext {i : Instr} {r : ExtReg} {op : ExtOp} {mm : Bool} (s : State) (h : i.form = .ext r op.request mm)
    (hr : r ≠ .pmlar) :
    ∃ rd wr, exec i s =
      extAccess (if DebugDomain s.cfg r then .debug else if NoEpmadColumn s.cfg r then .coreOpen else .core) op mm rd wr
        s := by
  have inj : ∀ a b : ExtOp, a.request = b.request → a = b := by
    intro a b
    cases a <;> cases b <;> simp [ExtOp.request]
  have pc : ∀ alt : Bool, exec (.extPmpcsrLo alt op.request mm) s =
      if s.cfg.pcSample then extAccess .coreOpen op mm readPcsrLo (fun _ s => s) s else reservedAccess op mm s := by
    intro alt
    cases op <;> rfl
  cases i <;> simp only [Instr.form, Form.ext.injEq, reduceCtorEq] at h
  case extPmlar => exact absurd h.1.symm hr
  case extPmpcsrLo alt q m =>
    obtain ⟨rfl, rfl, rfl⟩ := h
    rw [pc]
    simp only [DebugDomain, NoEpmadColumn, reservedAccess, extReadOnly, extPlain, Bool.false_eq_true, if_false]
    split <;> rename_i e <;> simp only [e, if_true] <;> exact ⟨_, _, rfl⟩
  all_goals
    obtain ⟨rfl, h2, rfl⟩ := h
    have h2 := inj _ _ h2
    subst h2
    simp only [exec, extReadOnly, extPlain, reservedAccess, DebugDomain, NoEpmadColumn, Bool.false_eq_true, if_false,
      if_true,
      execExtPmevcntrn, execExtPmccntrLo, execExtPmccntrHi, execExtPmpcsrHi, execExtPmcid1sr, execExtPmvidsr,
      execExtPmcid2sr, execExtPmevtypern, execExtPmccfiltr, execExtPmcntenset, execExtPmcntenclr,
      execExtPmintenset, execExtPmintenclr, execExtPmovsclr, execExtPmswinc, execExtPmovsset, execExtPmcfgr,
      execExtPmcr, execExtPmceid0, execExtPmceid1, execExtPmceid2, execExtPmceid3, execExtPmitctrl,
      execExtPmdevaff0, execExtPmdevaff1, execExtPmlsr, execExtPmauthstatus, execExtPmdevarch, execExtPmdevid,
      execExtPmdevtype, execExtPmpidr4, execExtPmpidr0, execExtPmpidr1, execExtPmpidr2, execExtPmpidr3,
      execExtPmcidr0, execExtPmcidr1, execExtPmcidr2, execExtPmcidr3, execExtReserved]
    first
      | exact ⟨_, _, rfl⟩
      | (split <;> exact ⟨_, _, rfl⟩)
      | (split <;> rename_i e <;> simp only [e, if_true, if_false, Bool.false_eq_true] <;> exact ⟨_, _, rfl⟩)

end Sys2Proof.Machine
end

