-- ==== Sys2Proof/Tests/Slice0.lean ====
section
/-! SUPPORT. The tests: an ill-formed term for each check of WellFormed, every constructor's word written out from the
encoding tables of spec/30_encoding.md, vectors of spec/95_test_vectors.md, and the witnesses of the statements'
hypotheses. -/
namespace Sys2Proof.Tests

open Sys2Proof Sys2Proof.Machine

/-- The instruction of a decoding, and the reason of a refused one. -/
def insn {α : Type} (d : Except DecodeError α) : Option α := d.toOption
def why {α : Type} (d : Except DecodeError α) : Option DecodeError :=
  match d with
  | .ok _ => none
  | .error e => some e

/-! ### WellFormed refuses (30_encoding R325, R333 to R335; 20_memory R284) -/

theorem test_wf_counter31_refused : WellFormed (.mrsPmevcntrn 31 0) = false := by decide
theorem test_wf_counter31_32_refused : WellFormed (.mcrPmevtypern 14 31 0) = false := by decide
theorem test_wf_counter31_ext_refused : WellFormed (.extPmevcntrn 31 .read false) = false := by decide
theorem test_wf_condition15_refused : WellFormed (.mrcPmcr 15 0) = false := by decide
theorem test_wf_r15_refused : WellFormed (.mcrPmselr 14 15) = false := by decide
theorem test_wf_mrrc_t2_15_refused : WellFormed (.mrrcPmccntr 14 0 15) = false := by decide
theorem test_wf_mrrc_same_refused : WellFormed (.mrrcPmccntr 14 3 3) = false := by decide
theorem test_wf_mcrr_same_admitted : WellFormed (.mcrrPmccntr 14 3 3) = true := by decide
theorem test_wf_allocated_offset_refused : WellFormed (.extReserved 0xC00 .read false) = false := by decide
theorem test_wf_unaligned_offset_refused : WellFormed (.extReserved 0x102 .read false) = false := by decide

/-! ### Decoding (30_encoding R321, R324, R325: each row's word, with the operands put into its fields) -/

/-- Words of 30_encoding R321, R324, R325. -/
theorem test_decode_a64_0 : ∀ p ∈ ([
   (0xD53B9C07, .mrsPmcr 7), (0xD51B9C0E, .msrPmcr 14), (0xD53B9C35, .mrsPmcntenset 21),
   (0xD51B9C3C, .msrPmcntenset 28), (0xD53B9C43, .mrsPmcntenclr 3), (0xD51B9C4A, .msrPmcntenclr 10),
   (0xD53B9C71, .mrsPmovsclr 17), (0xD51B9C78, .msrPmovsclr 24), (0xD51B9C9F, .msrPmswinc 31)] : List (W32 × Instr)), insn (decodeWord .a64 p.1) = some p.2 := by decide

/-- Words of 30_encoding R321, R324, R325. -/
theorem test_decode_a64_1 : ∀ p ∈ ([
   (0xD53B9CA6, .mrsPmselr 6), (0xD51B9CAD, .msrPmselr 13), (0xD53B9CD4, .mrsPmceid0 20),
   (0xD53B9CFB, .mrsPmceid1 27), (0xD53B9D02, .mrsPmccntr 2), (0xD51B9D09, .msrPmccntr 9),
   (0xD53B9D30, .mrsPmxevtyper 16), (0xD51B9D37, .msrPmxevtyper 23), (0xD53B9D5E, .mrsPmxevcntr 30)] : List (W32 × Instr)), insn (decodeWord .a64 p.1) = some p.2 := by decide

/-- Words of 30_encoding R321, R324, R325. -/
theorem test_decode_a64_2 : ∀ p ∈ ([
   (0xD51B9D45, .msrPmxevcntr 5), (0xD53B9E0C, .mrsPmuserenr 12), (0xD51B9E13, .msrPmuserenr 19),
   (0xD5389E3A, .mrsPmintenset 26), (0xD5189E21, .msrPmintenset 1), (0xD5389E48, .mrsPmintenclr 8),
   (0xD5189E4F, .msrPmintenclr 15), (0xD53B9E76, .mrsPmovsset 22), (0xD51B9E7D, .msrPmovsset 29)] : List (W32 × Instr)), insn (decodeWord .a64 p.1) = some p.2 := by decide

/-- Words of 30_encoding R321, R324, R325. -/
theorem test_decode_a64_3 : ∀ p ∈ ([
   (0xD53BEFE4, .mrsPmccfiltr 4), (0xD51BEFEB, .msrPmccfiltr 11), (0xD53BEB52, .mrsPmevcntrn 26 18),
   (0xD51BE819, .msrPmevcntrn 0 25), (0xD53BECA0, .mrsPmevtypern 5 0), (0xD51BED47, .msrPmevtypern 10 7)] : List (W32 × Instr)), insn (decodeWord .a64 p.1) = some p.2 := by decide

/-- Words of 30_encoding R330 to R332, R335. -/
theorem test_decode_a32_0 : ∀ p ∈ ([
   (0x1E19DF1C, .mrcPmcr 1 13), (0x5E095F1C, .mcrPmcr 5 5), (0x9E19CF3C, .mrcPmcntenset 9 12),
   (0xDE094F3C, .mcrPmcntenset 13 4), (0x2E19BF5C, .mrcPmcntenclr 2 11), (0x6E093F5C, .mcrPmcntenclr 6 3),
   (0xAE19AF7C, .mrcPmovsr 10 10), (0xEE092F7C, .mcrPmovsr 14 2), (0x3E099F9C, .mcrPmswinc 3 9)] : List (W32 × Instr)), insn (decodeWord .a32 p.1) = some p.2 := by decide

/-- Words of 30_encoding R330 to R332, R335. -/
theorem test_decode_a32_1 : ∀ p ∈ ([
   (0x7E191FBC, .mrcPmselr 7 1), (0xBE098FBC, .mcrPmselr 11 8), (0x0E190FDC, .mrcPmceid0 0 0),
   (0x4E197FFC, .mrcPmceid1 4 7), (0x8E19EF1D, .mrcPmccntr 8 14), (0xCE096F1D, .mcrPmccntr 12 6),
   (0x1E19DF3D, .mrcPmxevtyper 1 13), (0x5E095F3D, .mcrPmxevtyper 5 5), (0x9E19CF5D, .mrcPmxevcntr 9 12)] : List (W32 × Instr)), insn (decodeWord .a32 p.1) = some p.2 := by decide

/-- Words of 30_encoding R330 to R332, R335. -/
theorem test_decode_a32_2 : ∀ p ∈ ([
   (0xDE094F5D, .mcrPmxevcntr 13 4), (0x2E19BF1E, .mrcPmuserenr 2 11), (0x6E093F1E, .mcrPmuserenr 6 3),
   (0xAE19AF3E, .mrcPmintenset 10 10), (0xEE092F3E, .mcrPmintenset 14 2), (0x3E199F5E, .mrcPmintenclr 3 9),
   (0x7E091F5E, .mcrPmintenclr 7 1), (0xBE198F7E, .mrcPmovsset 11 8), (0x0E090F7E, .mcrPmovsset 0 0)] : List (W32 × Instr)), insn (decodeWord .a32 p.1) = some p.2 := by decide

/-- Words of 30_encoding R330 to R332, R335. -/
theorem test_decode_a32_3 : ∀ p ∈ ([
   (0x4E197F9E, .mrcPmceid2 4 7), (0x8E19EFBE, .mrcPmceid3 8 14), (0xCE1E6FFF, .mrcPmccfiltr 12 6),
   (0x1E0EDFFF, .mcrPmccfiltr 1 13), (0x5E1E5F58, .mrcPmevcntrn 5 2 5), (0x9E0ECFB9, .mcrPmevcntrn 9 13 12),
   (0xDE1E4F1F, .mrcPmevtypern 13 24 4), (0x2E0EBF9C, .mcrPmevtypern 2 4 11), (0x6C573F09, .mrrcPmccntr 6 3 7)] : List (W32 × Instr)), insn (decodeWord .a32 p.1) = some p.2 := by decide

/-- Words of 30_encoding R330 to R332, R335. -/
theorem test_decode_a32_4 : ∀ p ∈ ([
   (0xAC4EAF09, .mcrrPmccntr 10 10 14)] : List (W32 × Instr)), insn (decodeWord .a32 p.1) = some p.2 := by decide

/-- Offsets of 30_encoding R338 (10_state R24; 20_memory R284). -/
theorem test_decode_ext_0 : ∀ p ∈ ([
   (0x000, .extPmevcntrn 0), (0x0F0, .extPmevcntrn 30), (0x0F8, .extPmccntrLo), (0x0FC, .extPmccntrHi),
   (0x204, .extPmpcsrHi false), (0x224, .extPmpcsrHi true), (0x208, .extPmcid1sr false), (0x228, .extPmcid1sr true),
   (0x20C, .extPmvidsr), (0x22C, .extPmcid2sr), (0x400, .extPmevtypern 0), (0x478, .extPmevtypern 30),
   (0x47C, .extPmccfiltr), (0xC00, .extPmcntenset), (0xC20, .extPmcntenclr), (0xC40, .extPmintenset)] :
   List (BitVec 12 × (ExtOp → Bool → Instr))),
   insn (decodeBus ⟨p.1, 4, none, false⟩) = some (p.2 .read false) ∧
   insn (decodeBus ⟨p.1, 4, some 7, true⟩) = some (p.2 (.write 7) true) := by decide

/-- Offsets of 30_encoding R338 (10_state R24; 20_memory R284). -/
theorem test_decode_ext_1 : ∀ p ∈ ([
   (0xC60, .extPmintenclr), (0xC80, .extPmovsclr), (0xCA0, .extPmswinc), (0xCC0, .extPmovsset), (0xE00, .extPmcfgr),
   (0xE04, .extPmcr), (0xE20, .extPmceid0), (0xE24, .extPmceid1), (0xE28, .extPmceid2), (0xE2C, .extPmceid3),
   (0xF00, .extPmitctrl), (0xFA8, .extPmdevaff0), (0xFAC, .extPmdevaff1), (0xFB0, .extPmlar), (0xFB4, .extPmlsr),
   (0xFB8, .extPmauthstatus)] :
   List (BitVec 12 × (ExtOp → Bool → Instr))),
   insn (decodeBus ⟨p.1, 4, none, false⟩) = some (p.2 .read false) ∧
   insn (decodeBus ⟨p.1, 4, some 7, true⟩) = some (p.2 (.write 7) true) := by decide

/-- Offsets of 30_encoding R338 (10_state R24; 20_memory R284). -/
theorem test_decode_ext_2 : ∀ p ∈ ([
   (0xFBC, .extPmdevarch), (0xFC8, .extPmdevid), (0xFCC, .extPmdevtype), (0xFD0, .extPmpidr4), (0xFE0, .extPmpidr0),
   (0xFE4, .extPmpidr1), (0xFE8, .extPmpidr2), (0xFEC, .extPmpidr3), (0xFF0, .extPmcidr0), (0xFF4, .extPmcidr1),
   (0xFF8, .extPmcidr2), (0xFFC, .extPmcidr3), (0x004, .extReserved 0x004), (0x100, .extReserved 0x100),
   (0xFDC, .extReserved 0xFDC)] :
   List (BitVec 12 × (ExtOp → Bool → Instr))),
   insn (decodeBus ⟨p.1, 4, none, false⟩) = some (p.2 .read false) ∧
   insn (decodeBus ⟨p.1, 4, some 7, true⟩) = some (p.2 (.write 7) true) := by decide

theorem test_decode_pcsr : insn (decodeBus ⟨0x200, 4, none, false⟩) = some (.extPmpcsrLo false .read false) ∧
    insn (decodeBus ⟨0x220, 4, some 1, true⟩) = some (.extPmpcsrLo true (.write 1) true) ∧
    insn (decodeBus ⟨0x200, 8, none, true⟩) = some (.extPmpcsrLo false .read64 true) := by decide

/-- Slot 31 of the count registers, MRS of PMSWINC_EL0, MSR of PMCEID0_EL0 (95 V40-29, V40-20, V40-21; 30_encoding R325,
R327). -/
theorem test_unallocated64 : why (decodeWord .a64 0xD53BEBE0) = some (.unallocated .a64 14) ∧
    why (decodeWord .a64 0xD53B9C80) = some (.unallocated .a64 14) ∧
    why (decodeWord .a64 0xD51B9CC0) = some (.unallocated .a64 14) := by decide

/-- MRC of PMSWINC and MCR of PMCEID0 (95 V41-16, V41-17). -/
theorem test_unallocated32 : why (decodeWord .a32 0xEE190F9C) = some (.unallocated .a32 14) ∧
    why (decodeWord .a32 0xEE090FDC) = some (.unallocated .a32 14) := by decide

/-- Condition 15, another coprocessor, and an ADD are outside the six formats (30_encoding R320, R333). -/
theorem test_outside : why (decodeWord .a32 0xFE190F1C) = some (.outsideSpec 0xFE190F1C) ∧
    why (decodeWord .a32 0xEE190E1C) = some (.outsideSpec 0xEE190E1C) ∧
    why (decodeWord .a64 0x8B010000) = some (.outsideSpec 0x8B010000) := by decide

/-- Sizes and alignment of external accesses that are not defined (20_memory R285, R291). -/
theorem test_bus_refused : why (decodeBus ⟨0xC00, 2, none, false⟩) = some (.undefinedSize 2) ∧
    why (decodeBus ⟨0xC02, 4, none, false⟩) = some (.misaligned 0xC02) ∧
    why (decodeBus ⟨0xC00, 8, none, false⟩) = some (.undefinedSize 8) ∧
    why (decodeBus ⟨0x200, 8, some 1, false⟩) = some (.undefinedSize 8) := by decide

/-- The T32 form of MRC of PMCR: the halfword 0xEE19 first, then 0x0F1C (30_encoding R331). -/
theorem test_decode_t32 : insn (decodeBytes .t32 [0x19, 0xEE, 0x1C, 0x0F]) = some (.mrcPmcr 14 0, []) := by decide

theorem test_table_words : decodeTableWord 32 0xD53B9C00 = some (.mrsPmcr 0) ∧
    decodeTableWord 32 0x0E190F3C = some (.mrcPmcntenset 0 0) := by decide


/-! ### Small states -/

/-- A part of the next state, if there is one. -/
def after {α : Type} (o : Out) (f : State → α) : Option α :=
  match o with
  | .next t => some (f t)
  | _ => none

/-- The reason of a refusal. -/
def refusalOf (o : Out) : Option Refusal :=
  match o with
  | .refused r => some r
  | _ => none

def withPmu (f : Pmu → Pmu) (s : State) : State := { s with pmu := f s.pmu }
def withCtl (f : Ctl → Ctl) (s : State) : State := { s with ctl := f s.ctl }
def withEnv (f : Env → Env) (s : State) : State := { s with env := f s.env }
def withX (t : BitVec 5) (v : W64) (s : State) : State := writeX t v s
def withR (t : BitVec 4) (v : W32) (s : State) : State := writeR t v s
def counters (l : List W32) : Vector W32 31 := Vector.ofFn fun i => l.getD i.val 0
def firstSix (p : Pmu) : List W32 := (List.range 6).map (evcntAt p)

/-- CFG-A of 95 section 0 at an Exception level using AArch64: Non-secure, HPMN = 4, no trap and no lock. -/
def at64 (el : EL) : State :=
  { State.reset with
    ctl := { Ctl.reset Config.cfgA with mdcr2 := 4, scr := 0x401, oslk := false }
    pe := { Pe.reset Config.cfgA with ps := { Proc.reset with el := el } } }

/-- The same with EL0, EL1 and EL2 using AArch32 (SCR_EL3.RW = 0). -/
def at32 (el : EL) (mode : Mode) : State :=
  { at64 el with
    ctl := { (at64 el).ctl with scr := 1 }
    pe := { (at64 el).pe with
      ps := { Proc.reset with el := el, mode := mode }, aa32El0 := true, aa32El1 := true, aa32El2 := true } }

/-- EL3 using AArch32, with SCR.NS as given. -/
def at32El3 (mode : Mode) (scr : W32) : State :=
  { at32 .el3 mode with
    ctl := { (at32 .el3 mode).ctl with scr := scr }
    pe := { (at32 .el3 mode).pe with aa32El3 := true } }

/-- EL0 with PMUSERENR.EN. -/
def user64 : State := withPmu (fun p => { p with useren := ⟨false, false, false, true⟩ }) (at64 .el0)
def user32 : State := withPmu (fun p => { p with useren := ⟨false, false, false, true⟩ }) (at32 .el0 .user)

/-- CFG-B at EL1. -/
def minimal : State := { State.resetOf Config.cfgB with ctl := { Ctl.reset Config.cfgB with oslk := false } }

/-- The state of 95 V40-4. -/
def v404 (el : EL) : State :=
  withX 1 0xFFFFFFFFFFFFFFFF (withPmu (fun p => { p with
    evcnt := counters [1, 2, 3, 4, 5, 6], ccnt := 0x100000005, ovs := 0x8000003F, div64 := 17 }) (at64 el))

/-- PMCR as in 95 V40-1. -/
def v401 (s : State) : State := withPmu (fun p => { p with cr := ⟨true, false, false, false, true⟩ }) s

/-! ### Vectors of 95 section 2.1 -/

theorem test_v40_1 : after (exec (.mrsPmcr 0) (v401 (at64 .el2))) (fun t => (readX t 0, t.pe.pc)) = some (0x41033041, 4) := by
  decide
theorem test_v40_2 : after (exec (.mrsPmcr 0) (v401 (at64 .el1))) (fun t => readX t 0) = some 0x41032041 := by decide
theorem test_v40_4 : after (exec (.msrPmcr 1) (v404 .el1))
    (fun t => (t.pmu.cr, t.pmu.ccnt, t.pmu.div64, firstSix t.pmu, t.pmu.ovs)) =
    some (⟨true, true, false, true, true⟩, 0, 0, [0, 0, 0, 0, 5, 6], 0x8000003F) := by decide
theorem test_v40_5 : after (exec (.msrPmcr 1) (v404 .el2)) (fun t => firstSix t.pmu) = some [0, 0, 0, 0, 0, 0] := by decide
theorem test_v40_6 : after (exec (.msrPmcr 1) (withX 1 0x7F minimal)) (fun t => (t.pmu.cr.e, pmcrValue t)) =
    some (true, 0x41032041) := by decide
theorem test_v40_7 : after (exec (.msrPmcntenset 0) (withX 0 0xFFFFFFFF (at64 .el1))) (fun t => t.pmu.cnten) =
    some 0x8000000F := by decide
theorem test_v40_8 : after (exec (.msrPmcntenclr 0) (withX 0 0xFFFFFFFF (withPmu (fun p => { p with cnten := 0x8000003F })
    (at64 .el1)))) (fun t => t.pmu.cnten) = some 0x30 := by decide
theorem test_v40_9 : after (exec (.msrPmxevcntr 1) (withX 1 0xDEADBEEF (withPmu (fun p => { p with sel := 5 })
    (at64 .el2)))) (fun t => (evcntAt t.pmu 5, t.pmu.ovs)) = some (0xDEADBEEF, 0) := by decide
theorem test_v40_10 : after (exec (.msrPmselr 0) (withX 0 0xFFFFFFFFFFFFFFE3 (at64 .el1))) (fun t => t.pmu.sel) =
    some 3 := by decide
theorem test_v40_12 : after (exec (.msrPmxevtyper 0) (withX 0 0xFFFFFFFF (withPmu (fun p => { p with sel := 31 })
    (at64 .el1)))) (fun t => t.pmu.ccfilt) = some 0xFC000000 := by decide
theorem test_v40_13 : after (exec (.mrsPmxevcntr 2) (withPmu (fun p => { p with sel := 31 }) (at64 .el1)))
    (fun t => (t.exc, t.pe.esr1, t.pe.elr1)) = some (some (.toAArch64 .el1 0x02000000), 0x02000000, 0) := by decide
theorem test_v40_14 : after (exec (.mrsPmxevcntr 2) (withPmu (fun p => { p with sel := 4 }) (at64 .el1)))
    (fun t => t.pe.esr2) = some 0x6234E45B := by decide
theorem test_v40_15 : after (exec (.mrsPmevcntrn 5 0) (at64 .el1)) (fun t => t.pe.esr2) = some 0x623AF811 := by decide
theorem test_v40_17 : after (exec (.mrsPmevcntrn 10 0) (at64 .el3)) (fun t => t.pe.esr3) = some 0x02000000 := by decide
theorem test_v40_18 : after (exec (.msrPmevtypern 0 2) (withX 2 0xFFFFFFFF (at64 .el1))) (fun t => evtypeAt t.pmu 0) =
    some 0xFC00FFFF := by decide
theorem test_v40_19 : after (exec (.msrPmccntr 0) (withX 0 0xFFFFFFFFFFFFFFFF (at64 .el1)))
    (fun t => (t.pmu.ccnt, t.pmu.ovs)) = some (0xFFFFFFFFFFFFFFFF, 0) := by decide
theorem test_v40_22 : after (exec (.mrsPmceid0 0) (at64 .el3)) (fun t => readX t 0) = some 0x20001 ∧
    after (exec (.mrsPmceid1 1) (at64 .el3)) (fun t => readX t 1) = some 0 := by decide
theorem test_v40_23 : after (exec (.msrPmuserenr 0) user64) (fun t => (t.pe.esr1, currentEL t, t.pmu.useren.en)) =
    some (0x02000000, .el1, true) := by decide
theorem test_v40_24 : after (exec (.mrsPmuserenr 0) (withPmu (fun p => { p with useren := ⟨true, false, true, false⟩ })
    (at64 .el0))) (fun t => readX t 0) = some 0xA := by decide
theorem test_v40_26 : after (exec (.msrPmintenset 4) (withX 4 0x80000021 (at64 .el1))) (fun t => t.pmu.inten) =
    some 0x80000001 := by decide
theorem test_v40_28 : after (exec (.mrsPmccntr 31) (at64 .el0)) (fun t => t.pe.esr1) = some 0x6230E7FB ∧
    after (exec (.mrsPmccntr 31) (at64 .el1)) (fun t => (t.pe.pc, readX t 31)) = some (4, 0) := by decide
theorem test_v40_34 : after (exec (.msrPmevcntrn 2 3) (withPmu (fun p => { p with useren := ⟨true, false, false, false⟩ })
    (at64 .el0))) (fun t => (t.pe.esr1, t.pe.ps.el)) = some (0x6234F870, .el1) := by decide
theorem test_v40_36 : after (exec (.mrsPmxevtyper 0) (withPmu (fun p => { p with useren := ⟨true, false, false, false⟩ })
    (at64 .el0))) (fun t => t.pe.esr1) = some 0x6232E41B := by decide
theorem test_v40_38 : after (exec (.msrPmswinc 7) (at64 .el0)) (fun t => t.pe.esr1) = some 0x6238E4F8 := by decide
theorem test_v40_39 : after (exec (.mrsPmcr 0) (withCtl (fun c => { c with hcr := 0x08000000 }) (at64 .el0)))
    (fun t => (t.pe.esr2, currentEL t)) = some (0x6230E419, .el2) := by decide
theorem test_v40_42 : after (exec (.mrsPmcr 0) (withCtl (fun c => { c with mdcr2 := 0x24 }) (at64 .el1)))
    (fun t => t.pe.esr2) = some 0x6230E419 := by decide
theorem test_v40_43 : after (exec (.mrsPmcntenset 0) (withCtl (fun c => { c with mdcr2 := 0x24 }) (at64 .el1)))
    (fun t => t.exc) = some none := by decide
theorem test_v40_46 : after (exec (.mrsPmcr 0) (withCtl (fun c => { c with mdcr2 := 0x44, mdcr3 := 0x40, scr := 0 })
    (at64 .el1))) (fun t => t.pe.esr3) = some 0x6230E419 := by decide
theorem test_v40_47 : after (exec (.msrPmintenset 4) (withCtl (fun c => { c with mdcr3 := 0x40 }) (at64 .el2)))
    (fun t => t.pe.esr3) = some 0x6232249C := by decide

/-! ### Vectors of 95 section 2.2 -/

theorem test_v41_1 : after (exec (.mrcPmcr 14 5) (v401 (at32 .el2 .hyp))) (fun t => readR t 5) = some 0x41033041 := by decide
theorem test_v41_2 : after (exec (.mcrPmccfiltr 14 1) (withR 1 0xFFFFFFFF (withPmu (fun p =>
    { p with ccfilt := 0x04000000 }) (at32 .el1 .supervisor)))) (fun t => t.pmu.ccfilt) = some 0xFC000000 ∧
    after (exec (.mrcPmccfiltr 14 2) (withPmu (fun p => { p with ccfilt := 0xFC000000 }) (at32 .el1 .supervisor)))
      (fun t => readR t 2) = some 0xF8000000 := by decide
theorem test_v41_3 : after (exec (.mrcPmevtypern 14 2 0) (withPmu (fun p => { p with evtype := counters [0, 0, 0x04000011] })
    (at32 .el1 .supervisor))) (fun t => readR t 0) = some 0x11 ∧
    after (exec (.mcrPmevtypern 14 2 1) (withR 1 0x80000008 (withPmu (fun p =>
      { p with evtype := counters [0, 0, 0x04000011] }) (at32 .el1 .supervisor)))) (fun t => evtypeAt t.pmu 2) =
      some 0x84000008 := by decide
theorem test_v41_4 : after (exec (.mcrPmxevtyper 14 1) (withR 1 0x48000000 (withPmu (fun p => { p with sel := 31 })
    (at32 .el1 .supervisor)))) (fun t => t.pmu.ccfilt) = some 0x48000000 := by decide
theorem test_v41_5 : after (exec (.mcrPmccntr 14 0) (withR 0 0x12345678 (withPmu (fun p => { p with ccnt := 0x7FFFFFFF0 })
    (at32 .el1 .supervisor)))) (fun t => (t.pmu.ccnt, t.pmu.ovs)) = some (0x712345678, 0) := by decide
theorem test_v41_6 : after (exec (.mrrcPmccntr 14 6 7) (withPmu (fun p => { p with ccnt := 0x712345678 })
    (at32 .el1 .supervisor))) (fun t => (readR t 6, readR t 7)) = some (0x12345678, 7) := by decide
theorem test_v41_7 : after (exec (.mcrrPmccntr 14 2 3) (withR 2 0xAAAAAAAA (withR 3 0x55555555 (at32 .el1 .supervisor))))
    (fun t => t.pmu.ccnt) = some 0x55555555AAAAAAAA := by decide
theorem test_v41_8 : after (exec (.mrcPmceid0 14 0) (at32 .el1 .supervisor)) (fun t => readR t 0) = some 0x20001 ∧
    after (exec (.mrcPmceid2 14 1) (at32 .el1 .supervisor)) (fun t => readR t 1) = some 0 := by decide
theorem test_v41_9 : after (exec (.mrcPmcr 14 0) (withCtl (fun c => { c with hstr := 0x200 }) (at32 .el1 .supervisor)))
    (fun t => (t.exc, t.pe.esr2, t.pe.ps.mode)) = some (some (.toHyp 0x0FE02419), 0x0FE02419, .hyp) := by decide
theorem test_v41_10 : after (exec (.mrcPmevcntrn 14 0 0) (withCtl (fun c => { c with hstr := 0x200 })
    (at32 .el1 .supervisor))) (fun t => t.exc) = some none := by decide
theorem test_v41_11 : after (exec (.mrrcPmccntr 14 0 1) (withCtl (fun c => { c with hstr := 0x200 })
    (at32 .el1 .supervisor))) (fun t => t.pe.esr2) = some 0x13E00413 := by decide
theorem test_v41_13 : after (exec (.mrcPmccntr 14 2) (at32 .el0 .user)) (fun t => (t.exc, t.pe.ps.mode, t.pe.lrUnd)) =
    some (some .toUndefined, .undefined, 4) := by decide
theorem test_v41_14 : after (exec (.mrcPmccntr 14 2) { at64 .el0 with pe := { (at64 .el0).pe with aa32El0 := true } })
    (fun t => t.pe.esr1) = some 0x0FE0245B := by decide
theorem test_v41_20 : after (exec (.mcrPmcr 1 1) { at32 .el1 .supervisor with
    pe := { (at32 .el1 .supervisor).pe with ps := { (at32 .el1 .supervisor).pe.ps with flagZ := true } } })
    (fun t => (t.exc, t.pe.pc)) = some (none, 4) := by decide
theorem test_v41_21 : after (exec (.mcrPmcr 1 1) (withCtl (fun c => { c with mdcr2 := 0x44 })
    { at64 .el1 with pe := { (at64 .el1).pe with aa32El0 := true, aa32El1 := true } })) (fun t => t.pe.esr2) =
    some 0x0F102438 := by decide
theorem test_v41_22 : after (exec (.mrcPmevcntrn 14 5 2) (at32 .el1 .supervisor)) (fun t => t.pe.esr2) =
    some 0x0FEA3851 := by decide
theorem test_v41_24 : refusalOf (exec (.mrcPmcr 14 15) (at32 .el1 .supervisor)) = some .unpredictableRegister ∧
    refusalOf (exec (.mrrcPmccntr 14 2 2) (at32 .el1 .supervisor)) = some .unpredictableRegister := by decide

/-! ### Vectors of 95 sections 2.3 and 1 -/

theorem test_v42_1 : after (exec (.extPmcr .read false) (v401 (at64 .el1))) (fun t => t.resp) = some (.data 0x41) := by decide
theorem test_v42_2 : after (exec (.extPmcr (.write 6) false) (v404 .el1)) (fun t => (firstSix t.pmu, t.pmu.ccnt)) =
    some ([0, 0, 0, 0, 0, 0], 0) := by decide
theorem test_v42_3 : after (exec (.extPmcfgr .read false) (at64 .el1)) (fun t => t.resp) = some (.data 0xFF06) ∧
    after (exec (.extPmcfgr .read false) minimal) (fun t => t.resp) = some (.data 0x7F04) := by decide
theorem test_v42_6 : after (exec (.extPmccntrLo (.write 0xAAAAAAAA) false) (withPmu (fun p => { p with ccnt := 0x100000002 })
    (at64 .el1))) (fun t => (t.pmu.ccnt, t.pmu.ovs)) = some (0x1AAAAAAAA, 0) := by decide
theorem test_v42_7 : after (exec (.extPmevtypern 1 .read false) (withPmu (fun p =>
    { p with evtype := counters [0, 0x04000011] }) (at64 .el1))) (fun t => t.resp) = some (.data 0x04000011) := by decide
theorem test_v42_8 : after (exec (.extPmevcntrn 1 (.write 0x80000000) false) (at64 .el1)) (fun t => evcntAt t.pmu 1) =
    some 0x80000000 := by decide
theorem test_v42_9 : after (exec (.extPmevcntrn 6 .read false) (at64 .el1)) (fun t => t.resp) = some (.data 0) ∧
    after (exec (.extPmevtypern 6 (.write 0xFFFFFFFF) false) (at64 .el1)) (fun t => evtypeAt t.pmu 6) = some 0 := by decide
theorem test_v42_10 : after (exec (.extPmlsr .read true) (at64 .el1)) (fun t => t.resp) = some (.data 3) ∧
    after (exec (.extPmcntenset (.write 1) true) (at64 .el1)) (fun t => t.pmu.cnten) = some 0 ∧
    after (exec (.extPmlar (.write 0xC5ACCE55) true) (at64 .el1)) (fun t => t.pmu.slk) = some false := by decide
theorem test_v42_11 : after (exec (.extPmlsr .read false) (at64 .el1)) (fun t => t.resp) = some (.data 0) ∧
    after (exec (.extPmlar (.write 0xC5ACCE55) false) (at64 .el1)) (fun t => t.pmu.slk) = some true ∧
    after (exec (.extPmcntenset (.write 2) false) (at64 .el1)) (fun t => t.pmu.cnten) = some 2 := by decide
theorem test_v42_12 : after (exec (.extPmcntenset .read false) (withCtl (fun c => { c with mdcr3 := 0x200000 }) (at64 .el1)))
    (fun t => (t.resp, t.ctl.spmad)) = some (.error, true) ∧
    after (exec (.extPmdevarch .read false) (withCtl (fun c => { c with mdcr3 := 0x200000 }) (at64 .el1)))
    (fun t => t.resp) = some (.data 0x47702A16) := by decide
theorem test_v42_13 : after (exec (.extPmcntenset .read false) (withCtl (fun c => { c with mdcr3 := 0x200000, oslk := true })
    (at64 .el1))) (fun t => (t.resp, t.ctl.spmad)) = some (.error, false) := by decide
theorem test_v42_15 : after (exec (.extPmpcsrLo false .read false) (withEnv (fun e => { e with inDebug := true })
    (at64 .el1))) (fun t => t.resp) = some (.data 0xFFFFFFFF) := by decide
theorem test_v42_16 : after (exec (.extPmpcsrLo false .read true) (withPmu (fun p => { p with pcsr := 0x1000 })
    (at64 .el1))) (fun t => (t.resp, t.pmu.pcsr)) = some (.data 0x1000, 0x1000) := by decide
theorem test_v42_20 : after (exec (.extPmauthstatus .read false) (at64 .el1)) (fun t => t.resp) = some (.data 0xCC) := by decide
theorem test_v42_21 : after (exec (.extPmovsset (.write 0xFFFFFFFF) false) (withPmu (fun p => { p with inten := 0x80000000 })
    (at64 .el1))) (fun t => (t.pmu.ovs, pmuIrq t)) = some (0x8000003F, true) := by decide
theorem test_l1_7 : after (exec (.extPmdevtype .read true) (at64 .el1)) (fun t => t.resp) = some (.data 0x16) ∧
    after (exec (.extPmcidr0 .read true) (at64 .el1)) (fun t => t.resp) = some (.data 0x0D) ∧
    after (exec (.extPmcidr1 .read true) (at64 .el1)) (fun t => t.resp) = some (.data 0x90) ∧
    after (exec (.extPmcidr2 .read true) (at64 .el1)) (fun t => t.resp) = some (.data 0x05) ∧
    after (exec (.extPmcidr3 .read true) (at64 .el1)) (fun t => t.resp) = some (.data 0xB1) := by decide

/-! ### Vectors of 95 sections 2.4 to 2.6 -/

/-- The state of V43-25. -/
def v4325 (el : EL) : State :=
  withX 0 0x3F (withPmu (fun p => { p with
    cr := { p.cr with e := true }, cnten := 0x3F, evtype := counters [0, 0, 0x11] }) (at64 el))

/-- The state of V43-20: Secure EL1, counter 0 and the cycle counter running. -/
def v4320 : State :=
  withCtl (fun c => { c with scr := 0 }) (withPmu (fun p => { p with
    cr := { p.cr with e := true, lc := true }, cnten := 0x80000001, evtype := counters [0x11] }) (at64 .el1))

theorem test_v43_4 : [Ctx.secureEl0, .secureEl1, .nonSecureEl0, .nonSecureEl1, .nonSecureEl2, .secureEl3].map
    (filterPass Config.cfgA 0xA0000000) = [true, false, true, true, false, false] := by decide
theorem test_v43_12 : [Ctx.secureEl0, .secureEl1, .nonSecureEl0, .nonSecureEl1, .nonSecureEl2, .secureEl3].map
    (filterPass Config.cfgA 0xFC000000) = [false, false, true, true, true, true] := by decide
theorem test_v43_20 : after (step { v4320 with agenda := [.event 0x11 .secureEl1 .own 1] }) (fun t => evcntAt t.pmu 0) =
    some 0 ∧ after (step { v4320 with agenda := [.cycle .secureEl1] }) (fun t => t.pmu.ccnt) = some 1 := by decide
theorem test_v43_22 : after (step { withPmu (fun p => { p with
    cr := { p.cr with e := true, d := true }, cnten := 0x80000000, div64 := 63 }) (at64 .el1) with
    agenda := [.cycle .nonSecureEl1] }) (fun t => (t.pmu.ccnt, t.pmu.div64)) = some (1, 0) := by decide
theorem test_v43_25 : after (exec (.msrPmswinc 0) (v4325 .el1)) (fun t => firstSix t.pmu) = some [1, 1, 0, 1, 0, 0] := by
  decide
theorem test_v43_26 : after (exec (.msrPmswinc 0) (withCtl (fun c => { c with mdcr2 := 0x84 }) (v4325 .el2)))
    (fun t => firstSix t.pmu) = some [1, 1, 0, 1, 1, 1] := by decide
theorem test_v60_8 : syndrome64 (A64Reg.pmevtyper 30).sel true 9 = 0x623CF93E := by decide
theorem test_v60_14 : hsr32 (at32 .el1 .supervisor) (.wide true 14 2 3) = 0x13E00C52 := by decide
theorem test_v70_4 : after (step { withPmu (fun p => { p with slk := false }) (at64 .el1) with
    agenda := [.externalDebugReset] }) (fun t => (t.pmu.slk, t.ctl.mdcr2)) = some (true, 4) := by decide
theorem test_v70_5 : after (exec (.extPmcntenset .read false) (withEnv (fun e => { e with powered := false }) (at64 .el1)))
    (fun t => t.resp) = some .error := by decide
theorem test_v70_7 : after (step { minimal with agenda := [.warmReset .aarch64] }) (fun t => pmcrValue t) =
    some 0x41032040 := by decide

/-- A placed word runs as the next instruction: A64 and A32 (log 7). -/
theorem test_with_fetch_word : after (step (State.reset.withFetchWord 32 0xD53B9C00)) (fun t => (readX t 0, t.pe.pc)) =
    some (0x41033000, 4) ∧
    after (step (State.reset.withFetchWord 32 0xEE190F1C)) (fun t => (readR t 0, t.pe.pc)) = some (0x41033000, 4) := by
  decide

/-! ### The registers around the PMU, and the events that are none -/

/-- MCR of SCR with NS = 1 in Supervisor mode at EL3: the mode is one of EL1 from then on (60_exceptions R640, R641). -/
theorem test_scr_ns_moves_level : after (ctxAccess (.a32 .scr true 14 1) (withR 1 1 (at32El3 .supervisor 0)))
    (fun t => (currentEL t, isSecure t, t.pe.ps.mode)) = some (.el1, false, .supervisor) ∧
    after (ctxAccess (.a32 .scr true 14 1) (withR 1 1 (at32El3 .monitor 0))) currentEL = some .el3 := by decide

/-- MSR of SCR_EL3 with RW = 0: the lower levels use AArch32 (12_context R184). -/
theorem test_scr_rw : after (ctxAccess (.a64 .scrEl3 true 1) (withX 1 1 (at64 .el3)))
    (fun t => (t.pe.aa32El2, t.pe.aa32El1, t.pe.aa32El0)) = some (true, true, true) := by decide

/-- MCR of HCR in Hyp mode sets TGE, bit 27 (12_context R182). -/
theorem test_hcr_tge : after (ctxAccess (.a32 .hcr true 14 1) (withR 1 0x08000000 (at32 .el2 .hyp))) hcrTge =
    some true := by decide

/-- HSTR.T0 takes MRC of ID_DFR0 to Hyp mode: EC 3, COND AL, opc2 2, CRn 0, Rt 1, CRm 1, a read (12_context R180, R187). -/
theorem test_hstr_t0 : after (ctxAccess (.a32 .idDfr0 false 14 1) (withCtl (fun c => { c with hstr := 1 })
    (at32 .el1 .supervisor))) (fun t => t.exc) = some (some (.toHyp 0x0FE40023)) := by decide

/-- An UNDEFINED access in Monitor mode with SCR.NS = 1 enters Undefined mode at EL3 with NS = 0 (log 50): counter 10 is not
implemented. -/
theorem test_undefined_from_monitor : after (exec (.mrcPmevcntrn 14 10 0) (at32El3 .monitor 1))
    (fun t => (currentEL t, t.pe.ps.mode, t.ctl.scr)) = some (.el3, .undefined, 0) := by decide

/-- EDDFR shows PMUVer = 0b0100 in bits [11:8] (12_context R186). -/
theorem test_eddfr : after (step { at64 .el1 with agenda := [.readEddfr false] }) (fun t =>
    match t.resp with
    | .data v => v.extractLsb' 8 4
    | _ => 0) = some 4 := by
  have h : ∀ x : W64, (((x &&& ~~~0xF00#64) ||| 0x400#64).setWidth 32 : W32).extractLsb' 8 4 = 4 := by
    intro x
    ext i hi
    have : i = 0 ∨ i = 1 ∨ i = 2 ∨ i = 3 := by omega
    rcases this with rfl | rfl | rfl | rfl <;> simp
  exact congrArg some (h Config.eddfr)

/-- SW_INCR is no event step (43_counting R540). -/
theorem test_event_zero : refusalOf (step { v4325 .el1 with agenda := [.event 0 .nonSecureEl1 .own 1] }) =
    some .notAnEventStep := by decide

/-- An instruction out of scope retires (13_external R251). -/
theorem test_retire_other : after (step { at64 .el1 with agenda := [.retireInstruction] }) (fun t => t.env.retired) =
    some true := by decide

/-! ### Witnesses: each statement's hypotheses are met together, at the boundaries of their ranges -/

/-- Non-secure EL1. -/
def guest : State := at64 .el1
def guest32 : State := at32 .el1 .supervisor
/-- Non-secure EL0 with no EL0 permission. -/
def denied64 : State := at64 .el0
def denied32 : State := at32 .el0 .user
/-- EL1 with PMSELR naming the last accessible counter, the first one beyond, and 31. -/
def selecting (v : BitVec 5) (s : State) : State := withPmu (fun p => { p with sel := v }) s
/-- The machine with the word of MRS X0, PMCR_EL0 at the pc, and with others. -/
def fetching (bytes : List Byte) (s : State) : State := { s with mem := memWriteBytes s.mem s.pe.pc bytes }
/-- External accesses with the lock seen as unlocked, and as locked. -/
def unlockedExt : State := withPmu (fun p => { p with slk := false }) guest
def lockedExt : State := guest

theorem witness_DecodeOfEncode : WellFormed (.mrsPmevcntrn 30 31) = true ∧ WellFormed (.mcrPmevtypern 14 30 14) = true ∧
    WellFormed (.extReserved 0xFDC (.write 7) true) = true := by decide

theorem witness_EncodeOfDecode : insn (decodeWord .a64 0xD53B9C00) = some (.mrsPmcr 0) ∧
    insn (decodeWord .a32 0xEE190F1C) = some (.mrcPmcr 14 0) ∧
    insn (decodeBus ⟨0xFFC, 4, none, true⟩) = some (.extPmcidr3 .read true) := by decide

theorem witness_StepRunsDecodedInstruction_empty :
    let s := fetching [0x00, 0x9C, 0x3B, 0xD5] guest
    s.agenda = [] ∧ s.pmu.ime = false ∧ s.env.powered = true ∧ s.env.inReset = false ∧ s.env.inDebug = false ∧
    memRead s.mem s.pe.pc.toNat = some 0x00 ∧ memRead s.mem (s.pe.pc + 1).toNat = some 0x9C ∧
    memRead s.mem (s.pe.pc + 2).toNat = some 0x3B ∧ memRead s.mem (s.pe.pc + 3).toNat = some 0xD5 ∧
    insn (decodeBytes (currentIsa s) [0x00, 0x9C, 0x3B, 0xD5]) = some (.mrsPmcr 0, []) := by decide

theorem witness_StepRunsDecodedInstruction_agenda :
    let s := { fetching [0x1C, 0x0F, 0x19, 0xEE] guest32 with agenda := [.pe, .cycle .nonSecureEl1] }
    s.agenda = .pe :: [.cycle .nonSecureEl1] ∧ s.pmu.ime = false ∧ s.env.powered = true ∧ s.env.inReset = false ∧
    s.env.inDebug = false ∧
    memRead s.mem s.pe.pc.toNat = some 0x1C ∧ memRead s.mem (s.pe.pc + 1).toNat = some 0x0F ∧
    memRead s.mem (s.pe.pc + 2).toNat = some 0x19 ∧ memRead s.mem (s.pe.pc + 3).toNat = some 0xEE ∧
    insn (decodeBytes (currentIsa s) [0x1C, 0x0F, 0x19, 0xEE]) = some (.mrcPmcr 14 0, []) := by decide

theorem witness_StepRunsExternalAccess_bus :
    let s := { guest with agenda := [.bus ⟨0xE04, 4, none, false⟩] }
    s.pmu.ime = false ∧ s.agenda = .bus ⟨0xE04, 4, none, false⟩ :: [] ∧
    insn (decodeBus ⟨0xE04, 4, none, false⟩) = some (.extPmcr .read false) := by decide

/-- The last word of the block. -/
theorem witness_StepRunsExternalAccess_mapped :
    let s := { guest with agenda := [.memMapped 0xFFC 4 none] }
    s.pmu.ime = false ∧ s.agenda = .memMapped 0xFFC 4 none :: [] ∧ (0xFFC#64 - s.cfg.pmuBase).toNat < 4096 ∧
    insn (decodeBus ⟨(0xFFC#64 - s.cfg.pmuBase).setWidth 12, 4, none, true⟩) = some (.extPmcidr3 .read true) := by decide

/-- A fetched word, as an Option. -/
def fetched (s : State) : Option W32 :=
  match fetchWord s with
  | .ok w => some w
  | .error _ => none

theorem witness_UnallocatedWordIsUndefined64 :
    let s := fetching [0xE0, 0xEB, 0x3B, 0xD5] guest
    s.agenda = [] ∧ s.pmu.ime = false ∧ s.env.powered = true ∧ s.env.inReset = false ∧ s.env.inDebug = false ∧
    fetched s = some 0xD53BEBE0 ∧ why (decodeWord (currentIsa s) 0xD53BEBE0) = some (.unallocated .a64 14) := by decide

/-- MRC of PMSWINC, with a condition that passes (AL) and one that fails (EQ). -/
theorem witness_UnallocatedWordIsUndefined32 :
    let s := fetching [0x9C, 0x0F, 0x19, 0xEE] guest32
    let q := fetching [0x9C, 0x0F, 0x19, 0x0E] guest32
    s.agenda = [] ∧ s.pmu.ime = false ∧ s.env.powered = true ∧ s.env.inReset = false ∧ s.env.inDebug = false ∧
    fetched s = some 0xEE190F9C ∧ why (decodeWord (currentIsa s) 0xEE190F9C) = some (.unallocated .a32 14) ∧
    conditionPasses s 14 = true ∧
    fetched q = some 0x0E190F9C ∧ why (decodeWord (currentIsa q) 0x0E190F9C) = some (.unallocated .a32 0) ∧
    conditionPasses q 0 = false := by decide

/-- A guest with HPMN = 1 and with HPMN = N; a state that is no guest's. -/
theorem witness_AccessibleCountersAndMasks :
    GuestLevel (withCtl (fun c => { c with mdcr2 := 1 }) guest) ∧
    GuestLevel (withCtl (fun c => { c with mdcr2 := 6 }) guest) ∧
    (1 ≤ ((6 : W32).extractLsb' 0 5).toNat ∧ ((6 : W32).extractLsb' 0 5).toNat ≤ guest.cfg.n.val) ∧
    ¬ GuestLevel (at64 .el2) := by unfold GuestLevel; decide

/-- EL0 with EN, and EL1, with no trap. -/
theorem witness_MaskRegisters64 : (NotTrapped false user64 ∧ FromEl0 user64 (fun u => u.en = true) ∧
      currentEL user64 = .el0) ∧ (NotTrapped false guest ∧ currentEL guest ≠ .el0) := by
  unfold NotTrapped FromEl0 GuestLevel; decide

theorem witness_MrsOfPmcr : NotTrapped true user64 ∧ FromEl0 user64 (fun u => u.en = true) := by
  unfold NotTrapped FromEl0 GuestLevel; decide

theorem witness_MsrOfPmcr : NotTrapped true user64 ∧ FromEl0 user64 (fun u => u.en = true) ∧ NotTrapped true (at64 .el3) ∧
    FromEl0 (at64 .el3) (fun u => u.en = true) := by
  unfold NotTrapped FromEl0 GuestLevel; decide

/-- EL0 with only ER and CR, and with EN. -/
theorem witness_MrsOfSingleRegisters :
    let s := withPmu (fun p => { p with useren := ⟨true, true, false, false⟩ }) (at64 .el0)
    NotTrapped false s ∧ FromEl0 s (fun u => u.en = true ∨ u.er = true) ∧ FromEl0 s (fun u => u.en = true ∨ u.cr = true) ∧
    NotTrapped false user64 ∧ FromEl0 user64 (fun u => u.en = true) := by
  unfold NotTrapped FromEl0 GuestLevel; decide

theorem witness_MsrOfSingleRegisters : NotTrapped false user64 ∧ FromEl0 user64 (fun u => u.en = true) ∧
    FromEl0 user64 (fun u => u.en = true ∨ u.er = true) ∧ NotTrapped false guest ∧ currentEL guest ≠ .el0 := by
  unfold NotTrapped FromEl0 GuestLevel; decide

/-- EL0 with only SW. -/
theorem witness_MsrOfPmswinc :
    let s := withPmu (fun p => { p with useren := ⟨false, false, true, false⟩ }) (at64 .el0)
    NotTrapped false s ∧ FromEl0 s (fun u => u.en = true ∨ u.sw = true) := by
  unfold NotTrapped FromEl0 GuestLevel; decide

/-- Counter 3 is the last accessible one with HPMN = 4; SEL names it, or is 31. -/
theorem witness_MrsOfCounters :
    let s := selecting 3 user64
    NotTrapped false s ∧ FromEl0 s (fun u => u.en = true ∨ u.er = true) ∧ FromEl0 s (fun u => u.en = true) ∧
    (3 : BitVec 5).toNat < accessibleN s ∧ accessibleN s = 4 ∧ s.pmu.sel.toNat < accessibleN s ∧
    (selecting 31 user64).pmu.sel = 31 := by
  unfold NotTrapped FromEl0 GuestLevel; decide

theorem witness_MsrOfCounters :
    let s := selecting 0 user64
    NotTrapped false s ∧ FromEl0 s (fun u => u.en = true) ∧ (0 : BitVec 5).toNat < accessibleN s ∧
    s.pmu.sel.toNat < accessibleN s ∧ (selecting 31 user64).pmu.sel = 31 := by
  unfold NotTrapped FromEl0 GuestLevel; decide

/-- An AArch32 guest with EN at EL0, and one at EL1; R14 is the last register admitted. -/
theorem witness_MaskRegisters32 : Ready32 user32 14 false true ∧ wfReg32 14 = true ∧
    FromEl0 user32 (fun u => u.en = true) ∧ Ready32 guest32 14 false true ∧ currentEL guest32 ≠ .el0 := by
  unfold Ready32 NotTrapped T9Clear FromEl0 GuestLevel; dsimp only; and_intros <;> decide

theorem witness_PmcrThroughAArch32 : Ready32 user32 14 true true ∧ wfReg32 14 = true ∧
    FromEl0 user32 (fun u => u.en = true) := by
  unfold Ready32 NotTrapped T9Clear FromEl0 GuestLevel; decide

/-- T9 is set and has no effect: EL2 using AArch64 with E2H and TGE (95 V41-12). -/
theorem witness_MrcOfSingleRegisters :
    let s := withCtl (fun c => { c with hstr := 0x200, hcr := 0x408000000 })
      { user32 with pe := { user32.pe with aa32El1 := false, aa32El2 := false } }
    wfReg32 0 = true ∧ Ready32 s 14 false true ∧ FromEl0 s (fun u => u.en = true ∨ u.er = true) ∧
    FromEl0 s (fun u => u.en = true) ∧ FromEl0 s (fun u => u.en = true ∨ u.cr = true) ∧ Ready32 s 14 false false := by
  unfold Ready32 NotTrapped T9Clear FromEl0 GuestLevel; dsimp only; and_intros <;> decide

theorem witness_McrOfSingleRegisters : wfReg32 0 = true ∧ Ready32 user32 14 false true ∧
    FromEl0 user32 (fun u => u.en = true ∨ u.er = true) ∧ FromEl0 user32 (fun u => u.en = true) ∧
    Ready32 user32 14 false false ∧ Ready32 guest32 14 false true ∧ currentEL guest32 ≠ .el0 := by
  unfold Ready32 NotTrapped T9Clear FromEl0 GuestLevel; dsimp only; and_intros <;> decide

theorem witness_McrOfPmswinc :
    let s := withPmu (fun p => { p with useren := ⟨false, false, true, false⟩ }) (at32 .el0 .user)
    Ready32 s 14 false true ∧ wfReg32 14 = true ∧ FromEl0 s (fun u => u.en = true ∨ u.sw = true) := by
  unfold Ready32 NotTrapped T9Clear FromEl0 GuestLevel; decide

theorem witness_MrcOfCounters :
    let s := selecting 3 user32
    wfReg32 14 = true ∧ Ready32 s 14 false false ∧ (3 : BitVec 5).toNat < accessibleN s ∧ accessibleN s = 4 ∧
    FromEl0 s (fun u => u.en = true ∨ u.er = true) ∧ FromEl0 s (fun u => u.en = true) ∧ Ready32 s 14 false true ∧
    s.pmu.sel.toNat < accessibleN s ∧ Ready32 (selecting 31 s) 14 false true ∧ (selecting 31 s).pmu.sel = 31 := by
  unfold Ready32 NotTrapped T9Clear FromEl0 GuestLevel; dsimp only; and_intros <;> decide

theorem witness_McrOfCounters :
    let s := selecting 0 user32
    wfReg32 0 = true ∧ FromEl0 s (fun u => u.en = true) ∧ Ready32 s 14 false false ∧
    (0 : BitVec 5).toNat < accessibleN s ∧ Ready32 s 14 false true ∧ s.pmu.sel.toNat < accessibleN s ∧
    (selecting 31 s).pmu.sel = 31 := by
  unfold Ready32 NotTrapped T9Clear FromEl0 GuestLevel; dsimp only; and_intros <;> decide

theorem witness_CycleCounterIn64Bits :
    let s := withPmu (fun p => { p with useren := ⟨false, true, false, false⟩ }) (at32 .el0 .user)
    Ready32 s 14 false true ∧ wfReg32 0 = true ∧ wfReg32 14 = true ∧ (0 : BitVec 4) ≠ 14 ∧
    FromEl0 s (fun u => u.en = true ∨ u.cr = true) ∧ Ready32 user32 14 false true ∧
    FromEl0 user32 (fun u => u.en = true) := by
  unfold Ready32 NotTrapped T9Clear FromEl0 GuestLevel; dsimp only; and_intros <;> decide

/-- A condition that fails (EQ with Z clear), R15, and MRRC of one register twice. -/
theorem witness_ConditionAndRegisterChecks32 :
    (Instr.mrcPmcr 0 0).form = .a32 .pmcr false 0 0 ∧ conditionPasses guest32 0 = false ∧
    (Instr.mrcPmcr 14 15).form = .a32 .pmcr false 14 15 ∧ conditionPasses guest32 14 = true ∧
    (Instr.mrrcPmccntr 14 3 3).form = .a32Wide false 14 3 3 := by decide

/-- Both views, with the Software Lock open: not memory-mapped, or unlocked. -/
theorem witness_ExternalMaskRegisters : GatesOpen false lockedExt ∧ SlkOpen false lockedExt ∧ GatesOpen true unlockedExt ∧
    SlkOpen true unlockedExt := by
  unfold GatesOpen SlkOpen ViewExists Unlocked Allowed; decide

theorem witness_ExternalPmcr : GatesOpen true unlockedExt ∧ SlkOpen true unlockedExt := by
  unfold GatesOpen SlkOpen ViewExists Unlocked Allowed; decide

/-- Counter 5 is the last of CFG-A. -/
theorem witness_ExternalCounters : (30 : BitVec 5) ≠ 31 ∧ GatesOpen true unlockedExt ∧ (5 : BitVec 5).toNat < unlockedExt.cfg.n.val ∧
    unlockedExt.cfg.n.val = 6 ∧ SlkOpen true unlockedExt := by
  unfold GatesOpen SlkOpen ViewExists Unlocked Allowed; decide

theorem witness_ExternalConfiguration : GatesOpen true lockedExt ∧ GatesOpen true unlockedExt ∧
    (5 : BitVec 5).toNat < unlockedExt.cfg.n.val ∧ unlockedExt.cfg.n.val = 6 ∧ SlkOpen true unlockedExt := by
  unfold GatesOpen SlkOpen ViewExists Unlocked Allowed; decide

theorem witness_ExternalIdentification : ViewExists true lockedExt := by unfold ViewExists; decide

/-- With the lock seen open, and seen locked. -/
theorem witness_ExternalPcSample : lockedExt.cfg.pcSample = true ∧ ViewExists true lockedExt ∧ Unlocked lockedExt ∧
    ¬ SlkOpen true lockedExt ∧ lockedExt.cfg.pmpcsr64 = true ∧ SlkOpen false lockedExt ∧ SlkOpen true unlockedExt := by
  unfold ViewExists Unlocked SlkOpen; decide

theorem witness_SoftwareLockRegisters : ViewExists true lockedExt ∧ lockedExt.cfg.softwareLock = true ∧
    ViewExists false lockedExt := by unfold ViewExists; decide

/-- PMITCTRL in the Core and in the Debug power domain. -/
theorem witness_ExternalItctrl :
    let s (d : ItctrlDomain) : State := { unlockedExt with cfg := { Config.cfgA with itctrlDomain := d } }
    ViewExists true (s .core) ∧ (s .core).cfg.itctrlDomain = .core ∧ Unlocked (s .core) ∧ SlkOpen true (s .core) ∧
    (s .debug).cfg.itctrlDomain = .debug := by unfold ViewExists Unlocked SlkOpen; decide

theorem witness_ExternalPmswinc : GatesOpen true unlockedExt ∧ unlockedExt.cfg.extSwinc ≠ .absent ∧
    SlkOpen true unlockedExt := by
  unfold GatesOpen SlkOpen ViewExists Unlocked Allowed; decide

/-- Counter 6 is the first that CFG-A does not have; the optional registers are absent in another implementation. -/
theorem witness_ExternalReserved :
    let s : State := { guest with cfg := { Config.cfgA with extSwinc := .absent, pcSample := false } }
    GatesOpen true s ∧ s.cfg.n.val ≤ (6 : BitVec 5).toNat ∧ s.cfg.itctrlDomain = .absent ∧ s.cfg.extSwinc = .absent ∧
    s.cfg.pcSample = false := by
  unfold GatesOpen ViewExists Unlocked Allowed; decide

/-- The core off; and EPMAD alone. -/
theorem witness_ExternalGates :
    let off : State := withEnv (fun e => { e with powered := false }) guest
    let shut : State := withCtl (fun c => { c with mdcr3 := 0x200000 }) guest
    (Instr.extPmcntenset .read false).form = .ext .pmcntenset .read false ∧ ViewExists false off ∧
    DebugDomain off.cfg .pmcntenset = false ∧ ¬ Unlocked off ∧
    (Instr.extPmpcsrLo false .read64 false).form = .ext (.pmpcsrLo false) .read64 false ∧ off.cfg.pcSample = true ∧
    off.cfg.pmpcsr64 = true ∧ ViewExists false shut ∧ Unlocked shut ∧ ¬ Allowed shut ∧
    NoEpmadColumn shut.cfg .pmcntenset = false := by
  unfold ViewExists Unlocked Allowed; decide

theorem witness_SoftwareLockIgnoresWrites : (Instr.extPmcr (.write 1) true).form = .ext .pmcr (.write 1) true ∧
    ViewExists true lockedExt ∧ ExtReg.pmcr ≠ .pmlar ∧ ¬ SlkOpen true lockedExt ∧ Unlocked lockedExt ∧ Allowed lockedExt ∧
    DebugDomain lockedExt.cfg .pmdevid = true := by
  unfold ViewExists SlkOpen Unlocked Allowed; decide

theorem witness_ExternalViewIgnoresThePe : (Instr.extPmcr .read false).form = .ext .pmcr .read false ∧
    (∀ alt, ExtReg.pmcr ≠ .pmpcsrLo alt) ∧ ∃ t, exec (.extPmcr .read false) guest = .next t :=
  ⟨rfl, fun _ h => ExtReg.noConfusion h, _, rfl⟩

/-- Each level above EL0 in each Execution state, and the four targets of an UNDEFINED instruction at EL0. -/
theorem witness_UndefinedAtEl0 :
    let tge (s : State) : State := withCtl (fun c => { c with hcr := 0x08000000 }) s
    (currentEL guest = .el1 ∧ guest.pe.aa32El1 = false ∧ currentEL guest32 = .el1 ∧ guest32.pe.aa32El1 = true) ∧
    (currentEL (at64 .el2) = .el2 ∧ (at64 .el2).pe.aa32El2 = false ∧ currentEL (at32 .el2 .hyp) = .el2 ∧
      (at32 .el2 .hyp).pe.aa32El2 = true) ∧
    (currentEL (at64 .el3) = .el3 ∧ (at64 .el3).pe.aa32El3 = false ∧ currentEL (at32El3 .monitor 1) = .el3 ∧
      (at32El3 .monitor 1).pe.aa32El3 = true) ∧
    (currentEL denied64 = .el0 ∧ tgeReroutes denied64 = false ∧ denied64.pe.aa32El1 = false) ∧
    (currentEL denied32 = .el0 ∧ conditionPasses denied32 14 = true ∧ wfReg32 14 = true ∧
      tgeReroutes denied32 = false ∧ denied32.pe.aa32El1 = true) ∧
    (currentEL (tge denied64) = .el0 ∧ tgeReroutes (tge denied64) = true ∧ (tge denied64).pe.aa32El2 = false) ∧
    (currentEL (tge denied32) = .el0 ∧ tgeReroutes (tge denied32) = true ∧ (tge denied32).pe.aa32El2 = true) := by decide

theorem witness_El0TrapsTaken :
    (currentEL denied64 = .el0 ∧ (Instr.mrsPmcr 0).form = .a64 .pmcr false 0 ∧ allocated64 .pmcr false .el0 = true ∧
      El0Denied denied64.pmu.useren false (el0Class64 .pmcr)) ∧
    (currentEL denied32 = .el0 ∧ Names32 (.mrcPmcr 14 0) .pmcr false 14 (.single A32Reg.pmcr.sel false 14 0) ∧
      conditionPasses denied32 14 = true ∧ allocated32 .pmcr false .el0 = true ∧
      El0Denied denied32.pmu.useren false (el0Class32 .pmcr)) :=
  ⟨⟨rfl, rfl, rfl, rfl⟩, rfl, .inl ⟨0, rfl, rfl, rfl⟩, rfl, rfl, rfl⟩

/-- TPM at EL1; TPMCR alone for PMCR; T9 for MRRC. -/
theorem witness_El2TrapsTaken :
    let a := withCtl (fun c => { c with mdcr2 := 0x44 }) guest
    let b := withCtl (fun c => { c with mdcr2 := 0x24 }) guest
    let q := withCtl (fun c => { c with hstr := 0x200 }) guest32
    (GuestLevel a ∧ (Instr.mrsPmselr 0).form = .a64 .pmselr false 0 ∧ allocated64 .pmselr false (currentEL a) = true ∧
      currentEL a ≠ .el0 ∧ a.ctl.mdcr2.getLsbD 6 = true) ∧
    (GuestLevel b ∧ (Instr.mrsPmcr 0).form = .a64 .pmcr false 0 ∧ b.ctl.mdcr2.getLsbD 5 = true) ∧
    (GuestLevel q ∧ (Instr.mrrcPmccntr 14 0 1).form = .a32Wide false 14 0 1 ∧ wfReg32 0 = true ∧ wfReg32 1 = true ∧
      conditionPasses q 14 = true ∧ allocated32 .pmccntr false (currentEL q) = true ∧ currentEL q ≠ .el0 ∧
      usesC9 .pmccntr = true ∧ ¬ T9Clear q ∧ q.pe.aa32El2 = true) := by
  unfold GuestLevel T9Clear GuestLevel; decide

theorem witness_El3TrapsTaken :
    let s := withCtl (fun c => { c with mdcr3 := 0x40 }) guest
    let q := withCtl (fun c => { c with mdcr3 := 0x40 }) guest32
    (s.cfg.haveEL3 = true ∧ s.pe.aa32El3 = false ∧ currentEL s ≠ .el3 ∧ s.ctl.mdcr3.getLsbD 6 = true ∧
      s.ctl.mdcr2.getLsbD 6 = false ∧ s.ctl.mdcr2.getLsbD 5 = false ∧ (Instr.mrsPmcr 0).form = .a64 .pmcr false 0 ∧
      allocated64 .pmcr false (currentEL s) = true ∧ currentEL s ≠ .el0) ∧
    (q.cfg.haveEL3 = true ∧ q.pe.aa32El3 = false ∧ currentEL q = .el1 ∧ q.ctl.mdcr3.getLsbD 6 = true ∧
      q.ctl.mdcr2.getLsbD 6 = false ∧ (Instr.mrcPmcr 14 0).form = .a32 .pmcr false 14 0 ∧ wfReg32 0 = true ∧
      conditionPasses q 14 = true ∧ allocated32 .pmcr false (currentEL q) = true ∧ q.ctl.mdcr2.getLsbD 5 = false ∧
      T9Clear q) := by
  unfold T9Clear GuestLevel; decide

/-- Counter 4, the first beyond HPMN = 4, is offered the trap; counter 6, the first beyond N, is not; SEL = 31 selects no
count register; and the other choices of an implementation. -/
theorem witness_InaccessibleCounter64 :
    let other (c : CuChoice) : State := { guest with cfg := { Config.cfgA with cuCounterAccess := c } }
    (Instr.mrsPmevcntrn 4 0).form = .a64 (.pmevcntr 4) false 0 ∧ NotTrapped false guest ∧ currentEL guest ≠ .el0 ∧
    OutOfRange64 guest (.pmevcntr 4) 4 ∧ guest.cfg.cuCounterAccess = .undefinedOrTrap ∧ TrapOffered guest 4 ∧
    OutOfRange64 guest (.pmevcntr 6) 6 ∧ ¬ TrapOffered guest 6 ∧
    OutOfRange64 (selecting 31 guest) .pmxevcntr 31 ∧ NotTrapped false (selecting 31 guest) ∧
    OutOfRange64 (other .razWi) (.pmevcntr 4) 4 ∧ (other .razWi).cfg.cuCounterAccess = .razWi ∧
    NotTrapped false (other .razWi) ∧ OutOfRange64 (other .nop) (.pmevcntr 4) 4 ∧
    (other .nop).cfg.cuCounterAccess = .nop ∧ NotTrapped false (other .nop) ∧
    ((other .selUnknown).cfg.cuCounterAccess = .selUnknown ∧ NotTrapped false (other .selUnknown) ∧
      0 < accessibleN (other .selUnknown) ∧ OutOfRange64 (other .selUnknown) (.pmevcntr 4) 4 ∧
      OutOfRange64 (selecting 4 (other .selUnknown)) .pmxevcntr 4 ∧
      OutOfRange64 (selecting 30 (other .selUnknown)) .pmxevtyper 30) ∧
    ((other .sel31).cfg.cuCounterAccess = .sel31 ∧ NotTrapped false (other .sel31) ∧
      OutOfRange64 (other .sel31) (.pmevtyper 4) 4 ∧ OutOfRange64 (selecting 4 (other .sel31)) .pmxevcntr 4 ∧
      OutOfRange64 (selecting 30 (other .sel31)) .pmxevtyper 30) := by
  unfold OutOfRange64 TrapOffered NotTrapped GuestLevel; dsimp only; and_intros <;> decide

theorem witness_InaccessibleCounter32 :
    let other (c : CuChoice) : State := { guest32 with cfg := { Config.cfgA with cuCounterAccess := c } }
    let under64 : State := { guest32 with pe := { guest32.pe with aa32El2 := false } }
    (Instr.mrcPmevcntrn 14 4 0).form = .a32 (.pmevcntr 4) false 14 0 ∧ wfReg32 0 = true ∧
    Ready32 guest32 14 false (usesC9 (.pmevcntr 4)) ∧ currentEL guest32 ≠ .el0 ∧ OutOfRange32 guest32 (.pmevcntr 4) 4 ∧
    guest32.cfg.cuCounterAccess = .undefinedOrTrap ∧ TrapOffered guest32 4 ∧ guest32.pe.aa32El2 = true ∧
    Ready32 under64 14 false (usesC9 (.pmevcntr 4)) ∧ OutOfRange32 under64 (.pmevcntr 4) 4 ∧ TrapOffered under64 4 ∧
    under64.pe.aa32El2 = false ∧ OutOfRange32 guest32 (.pmevcntr 6) 6 ∧ ¬ TrapOffered guest32 6 ∧
    (other .razWi).cfg.cuCounterAccess = .razWi ∧ OutOfRange32 (other .razWi) (.pmevcntr 4) 4 ∧
    Ready32 (other .razWi) 14 false (usesC9 (.pmevcntr 4)) ∧ (other .nop).cfg.cuCounterAccess = .nop ∧
    ((other .selUnknown).cfg.cuCounterAccess = .selUnknown ∧ Ready32 (other .selUnknown) 14 false true ∧
      0 < accessibleN (other .selUnknown) ∧ OutOfRange32 (other .selUnknown) (.pmevcntr 4) 4 ∧
      OutOfRange32 (selecting 4 (other .selUnknown)) .pmxevcntr 4 ∧
      OutOfRange32 (selecting 30 (other .selUnknown)) .pmxevtyper 30) ∧
    ((other .sel31).cfg.cuCounterAccess = .sel31 ∧ Ready32 (other .sel31) 14 false true ∧
      OutOfRange32 (other .sel31) (.pmevtyper 4) 4 ∧ OutOfRange32 (selecting 4 (other .sel31)) .pmxevcntr 4 ∧
      OutOfRange32 (selecting 30 (other .sel31)) .pmxevtyper 30) := by
  unfold OutOfRange32 TrapOffered Ready32 NotTrapped T9Clear GuestLevel; dsimp only; and_intros <;> decide

/-- A32 and T32, with CV and without; both ways of presenting the condition; R12 is the last whose view is fixed. -/
theorem witness_SyndromesOfTrappedAccesses :
    let t32 : State := { guest32 with pe := { guest32.pe with ps := { guest32.pe.ps with t32 := true } } }
    let no (b : Bool) (p : CondPresentation) : State :=
      { t32 with cfg := { Config.cfgA with t32CV := b, condPresentation := p } }
    guest32.pe.ps.t32 = false ∧ (no true .asEncoded).pe.ps.t32 = true ∧ (no true .asEncoded).cfg.t32CV = true ∧
    (no false .asEncoded).cfg.t32CV = false ∧ (no true .alwaysAL).cfg.condPresentation = .alwaysAL ∧
    (no true .asEncoded).cfg.condPresentation = .asEncoded ∧ (12 : BitVec 4).toNat ≤ 12 := by decide

/-- Undefined mode as a mode of EL1, and of EL3 (from Monitor mode with SCR.NS = 1 too). -/
theorem witness_ExceptionEntry : guest32.pe.ps.t32 = false ∧ isSecure guest32 = false ∧
    (isSecure (at32El3 .monitor 1) = true ∧ (at32El3 .monitor 1).cfg.haveEL3 = true ∧
      (at32El3 .monitor 1).pe.aa32El3 = true) := by decide

/-- 60_exceptions R621: a return from Supervisor mode completes where the environment says. -/
theorem test_return_from_supervisor :
    after (exceptionReturn 0x100 { guest32.pe.ps with el := .el0, mode := .user } guest32)
      (fun t => (t.pe.pc, currentEL t)) = some (0x100, .el0) := by decide

/-- 60_exceptions R621: a move from EL3 to EL1 draws ESR_EL3 and leaves ESR_EL1. -/
theorem test_move_down_forgets_syndrome :
    let s : State := { withCtl (fun c => { c with scr := 0x401 }) (at64 .el3) with freeCtr := 0 }
    after (setProcess { s.pe.ps with el := .el1 } false false false false s) (fun t => (t.pe.esr3, t.pe.esr1)) =
      some ((Config.freeValue 1).setWidth 32, s.pe.esr1) := rfl

/-- From Non-secure EL0, with EL1 using AArch64. -/
theorem witness_ReturnUndoesEntry : (EL.el1 ≠ EL.el0) ∧ usesAArch32 denied64 .el1 = false ∧
    (currentEL denied64).level ≤ EL.el1.level ∧ legalProcess denied64 = true := by decide

/-- A counter of a supported event; one of an unsupported event that is left open; SW_INCR; no occurrence. -/
theorem witness_EventStepCounts :
    let s := { v4325 .el1 with agenda := [.event 0x11 .nonSecureEl1 .own 1] }
    let q := { withPmu (fun p => { p with evtype := counters [0x99] }) s with
      cfg := { Config.cfgA with openEvents := [0x99] } }
    let r (e : BitVec 16) (k : Nat) : State := { s with agenda := [.event e .nonSecureEl1 .own k] }
    s.agenda = .event 0x11 .nonSecureEl1 .own 1 :: [] ∧ s.pmu.ime = false ∧ s.env.powered = true ∧
    ¬ OpenEvent s.cfg (evtCount (evtypeAt s.pmu 2)) ∧ EventHit s 0x11 .nonSecureEl1 .own 2 ∧
    OpenEvent q.cfg (evtCount (evtypeAt q.pmu 0)) ∧ MayCount q .nonSecureEl1 .own 0 ∧
    (r 0 1).agenda = .event 0 .nonSecureEl1 .own 1 :: [] ∧ (r 0x11 0).agenda = .event 0x11 .nonSecureEl1 .own 0 :: [] := by
  unfold OpenEvent EventHit MayCount CounterEnabled InEl2Range; dsimp only; and_intros <;> decide

/-- Not counting; counting every cycle; the prescaler below its end and at its end. -/
theorem witness_CycleStepCounts :
    let s (c : Cr) (d : BitVec 6) : State :=
      { withPmu (fun p => { p with cr := c, cnten := 0x80000000, div64 := d }) guest with agenda := [.cycle .nonSecureEl1] }
    let counts (q : State) : Prop := q.pmu.cnten.getLsbD 31 = true ∧ q.pmu.cr.e = true ∧
      prohibitedForC q .nonSecureEl1 = false ∧ filterPass q.cfg q.pmu.ccfilt .nonSecureEl1 = true
    (s ⟨false, false, false, true, true⟩ 63).agenda = .cycle .nonSecureEl1 :: [] ∧
    (s ⟨false, false, false, true, true⟩ 63).pmu.ime = false ∧ (s ⟨false, false, false, true, true⟩ 63).env.powered = true ∧
    counts (s ⟨false, false, false, true, true⟩ 63) ∧ counts (s ⟨false, false, false, true, true⟩ 62) ∧
    counts (s ⟨true, false, false, true, true⟩ 0) ∧ ¬ counts (s ⟨false, false, false, true, false⟩ 0) := by
  dsimp only; and_intros <;> decide

/-- Secure state with SPME = 0 and 1; EL2 with HPMD; and no EL3. -/
theorem witness_ProhibitionTable :
    let hpmd := withCtl (fun c => { c with mdcr2 := 0x20004 }) guest
    let spme := withCtl (fun c => { c with mdcr3 := 0x20000 }) guest
    guest.cfg.haveEL3 = true ∧ guest.ctl.mdcr3.getLsbD 17 = false ∧ guest.ctl.mdcr2.getLsbD 17 = false ∧
    hpmd.cfg.haveEL2 = true ∧ hpmd.ctl.mdcr2.getLsbD 17 = true ∧ spme.ctl.mdcr3.getLsbD 17 = true ∧
    minimal.cfg.haveEL3 = false := by decide

theorem witness_FilterTable : Config.cfgA.haveEL3 = true ∧ Config.cfgB.haveEL3 = false := by decide

theorem witness_NothingCountsWhenOff :
    let off : State := { withEnv (fun e => { e with powered := false }) guest with agenda := [.cycle .nonSecureEl1] }
    let ime : State := { withPmu (fun p => { p with ime := true }) guest with agenda := [.event 0x11 .nonSecureEl1 .own 1] }
    off.agenda = .cycle .nonSecureEl1 :: [] ∧ off.pmu.ime = false ∧ off.env.powered = false ∧
    ime.agenda = .event 0x11 .nonSecureEl1 .own 1 :: [] ∧ ime.pmu.ime = true := by decide

/-- Both Execution states; an implementation with and one without AArch32. -/
theorem witness_WarmResetValues :
    let s (into : ExecState) : State := { guest with agenda := [.warmReset into] }
    (s .aarch64).agenda = .warmReset .aarch64 :: [] ∧ resetIntoFits guest.cfg .aarch64 = true ∧
    (s .aarch32).agenda = .warmReset .aarch32 :: [] ∧ resetIntoFits guest.cfg .aarch32 = true ∧
    resetIntoFits minimal.cfg .aarch64 = true ∧ anyAArch32 minimal.cfg = false := by decide

theorem witness_ColdAndExternalDebugReset :
    let s (i : Input) : State := { guest with agenda := [i] }
    (s (.coldReset .aarch64)).agenda = .coldReset .aarch64 :: [] ∧ resetIntoFits guest.cfg .aarch64 = true ∧
    (s (.powerUp (.lost .aarch32))).agenda = .powerUp (.lost .aarch32) :: [] ∧
    resetIntoFits guest.cfg .aarch32 = true ∧ (s (.powerUp .retained)).agenda = .powerUp .retained :: [] ∧
    (s .powerDown).agenda = .powerDown :: [] ∧ (s .externalDebugReset).agenda = .externalDebugReset :: [] := by decide

/-- Each level; TDA at EL2; TDOSA at Non-secure EL1, and EL1 without it; EL3 without EL2; lower levels with and without
AArch32. -/
theorem witness_ContextRegistersInAArch64 :
    let tda := withCtl (fun c => { c with mdcr3 := 0x200 }) (at64 .el2)
    let tdosa := withCtl (fun c => { c with mdcr2 := 0x404 }) guest
    let noEl2 : State := { at64 .el3 with cfg := { Config.cfgA with haveEL2 := false } }
    let only64 : State := { at64 .el3 with cfg :=
      { Config.cfgA with el0Exec := .aarch64Only, el1Exec := .aarch64Only, el2Exec := .aarch64Only } }
    (currentEL denied64 = .el0 ∧ currentEL guest = .el1 ∧ currentEL (at64 .el2) = .el2 ∧ currentEL (at64 .el3) = .el3) ∧
    (tda.cfg.haveEL3 = true ∧ tda.pe.aa32El3 = false ∧ currentEL tda = .el2 ∧ tda.ctl.mdcr3.getLsbD 9 = true ∧
      (at64 .el2).ctl.mdcr3.getLsbD 9 = false) ∧
    (currentEL tdosa = .el1 ∧ GuestLevel tdosa ∧ tdosa.ctl.mdcr2.getLsbD 10 = true ∧ guest.ctl.mdcr2.getLsbD 10 = false ∧
      guest.ctl.mdcr2.getLsbD 8 = false ∧ guest.ctl.hcr.getLsbD 27 = false) ∧
    ((at64 .el3).cfg.haveEL2 = true ∧ anyAArch32 (at64 .el3).cfg = true ∧ hpmnLegal (at64 .el3) = true) ∧
    (currentEL noEl2 = .el3 ∧ noEl2.cfg.haveEL2 = false) ∧
    (canAArch32 (at64 .el3).cfg .el1 = true ∧ currentEL only64 = .el3 ∧ canAArch32 only64.cfg .el0 = false ∧
      canAArch32 only64.cfg .el1 = false ∧ canAArch32 only64.cfg .el2 = false) := by
  unfold GuestLevel; decide

/-- R0 and R14; each level; EL3 with SCR.NS = 0 and 1; TDA; Secure EL1 under EL3 using AArch64; HSTR.T0 under EL2 in both
Execution states, clear, and set without effect. -/
theorem witness_ContextRegistersInAArch32 :
    let secure := withCtl (fun c => { c with scr := 0 }) guest32
    let tda := withCtl (fun c => { c with mdcr3 := 0x200 }) (at32 .el2 .hyp)
    let t0 := withCtl (fun c => { c with hstr := 1 }) guest32
    let t0In64 : State := { t0 with pe := { t0.pe with aa32El2 := false } }
    let clear := withCtl (fun c => { c with hcr := 0x408000000 }) t0In64
    (wfReg32 0 = true ∧ wfReg32 14 = true ∧ conditionPasses guest32 14 = true) ∧
    (currentEL denied32 = .el0 ∧ currentEL guest32 = .el1 ∧ isSecure guest32 = false ∧ currentEL (at32 .el2 .hyp) = .el2 ∧
      currentEL (at32El3 .monitor 0) = .el3 ∧ (at32El3 .monitor 0).ctl.scr.getLsbD 0 = false ∧
      (at32El3 .monitor 1).ctl.scr.getLsbD 0 = true ∧ (at32El3 .monitor 1).cfg.haveEL2 = true ∧
      anyAArch32 (at32El3 .monitor 1).cfg = true ∧ hpmnLegal (at32El3 .monitor 1) = true ∧
      canAArch32 (at32El3 .monitor 1).cfg .el1 = true) ∧
    (currentEL secure = .el1 ∧ isSecure secure = true ∧ secure.cfg.haveEL3 = true ∧ secure.pe.aa32El3 = false) ∧
    (tda.cfg.haveEL3 = true ∧ tda.pe.aa32El3 = false ∧ currentEL tda = .el2 ∧ tda.ctl.mdcr3.getLsbD 9 = true) ∧
    (currentEL t0 = .el1 ∧ GuestLevel t0 ∧ t0.ctl.hstr.getLsbD 0 = true ∧ t0.pe.aa32El2 = true) ∧
    (t0In64.pe.aa32El2 = false ∧ t0In64.ctl.hcr.getLsbD 34 = false ∧ guest32.ctl.hstr.getLsbD 0 = false) ∧
    (clear.pe.aa32El2 = false ∧ clear.ctl.hcr.getLsbD 34 = true ∧ clear.ctl.hcr.getLsbD 27 = true) := by
  unfold GuestLevel; decide

theorem witness_EdprsrReadClearsSpmad :
    let s : State := { withCtl (fun c => { c with spmad := true }) guest with agenda := [.readEdprsr false] }
    s.agenda = .readEdprsr false :: [] ∧ s.pmu.ime = false ∧ Unlocked s ∧ s.env.inReset = false := by
  unfold Unlocked; decide

/-- Counter 4 is the first hidden from a guest with HPMN = 4; 30 is the last. -/
theorem witness_HiddenCountersAreIsolated : (∀ r q mm, (Instr.msrPmcr 1).form ≠ .ext r q mm) ∧
    (∃ t, exec (.msrPmcr 1) (v404 .el1) = .next t) ∧ accessibleN (v404 .el1) ≤ 4 ∧ 4 < 31 ∧ accessibleN (v404 .el1) ≤ 30 :=
  ⟨fun _ _ _ h => Form.noConfusion h, ⟨_, rfl⟩, by decide⟩

theorem witness_EveryStepKeepsInvariant :
    let s : State := { guest with agenda := [.cycle .nonSecureEl1] }
    StateInv s ∧ ∃ t, step s = .next t := by
  refine ⟨⟨by decide, ?_, ?_, by decide, by decide⟩, _, rfl⟩
  · have hv : ∀ n, evcntAt Pmu.reset n = 0 ∧ evtypeAt Pmu.reset n = 0 := fun n => by
      simp only [evcntAt, evtypeAt, Pmu.reset, Vector.getElem_replicate]
      split <;> exact ⟨rfl, rfl⟩
    refine ⟨rfl, rfl, rfl, rfl, rfl, fun n _ => ?_, fun n _ => ⟨(hv n).2, (hv n).1⟩⟩
    exact (congrArg (Within · _) (hv n).2).mpr (by unfold Within; decide)
  · unfold CtlInv Within; decide

end Sys2Proof.Tests
end

section
/-! PROOFS. Every step keeps the invariant and the parameters (O58). `MeetsInv c s` says that s meets the invariant and has
the parameters c. Each operation of the model has one lemma: it takes a state with `MeetsInv c` to another. The instructions,
the inputs and the step are put together from these. -/
namespace Sys2Proof.Machine

open Sys2Proof

/-! ### Words within a mask -/

theorem within_zero (m : W32) : Within 0 m := by simp [Within]

theorem within_and {v m : W32} (w : W32) (h : Within v m) : Within (v &&& w) m := by
  rw [within_iff] at h ⊢
  intro i hi hb
  rw [BitVec.getLsbD_and, Bool.and_eq_true] at hb
  exact h i hi hb.1

theorem within_or {v w m : W32} (hv : Within v m) (hw : Within w m) : Within (v ||| w) m := by
  rw [within_iff] at hv hw ⊢
  intro i hi h
  rw [BitVec.getLsbD_or, Bool.or_eq_true] at h
  exact h.elim (hv i hi) (hw i hi)

/-- What is cut to a mask lies within every larger mask. -/
theorem within_cut {k m : W32} (v : W32) (h : Within k m) : Within (v &&& k) m := by
  rw [BitVec.and_comm]
  exact within_and v h

theorem within_self (m : W32) : Within m m := by simp [Within]

/-- A merge of bits of the mask into a word within it. -/
theorem within_mergeBits {k m old : W32} (v : W32) (hk : Within k m) (ho : Within old m) :
    Within (mergeBits k old v) m :=
  within_or (within_cut v hk) (within_and _ ho)

/-- What a System register access sees exists. -/
theorem within_visibleMask (s : State) : Within (visibleMask s) (implMask s.cfg) := by
  have hn := s.cfg.n.isLt
  have hle := accessibleN_le s
  rw [within_iff]
  intro i hi hb
  rw [visibleMask, getLsbD_counterMask _ _ (by omega) hi] at hb
  exact (getLsbD_counterMask s.cfg.n.val i (by omega) hi).mpr (by omega)

/-- HPMN holds every number of counters. -/
theorem within_hpmn {n : Nat} (h : n < 32) : Within (BitVec.ofNat 32 n) mdcr2Mask := by
  rw [within_iff]
  intro i _ hb
  have hi : i < 5 := by
    by_contra hge
    rw [getLsbD_small n i h (by omega)] at hb
    cases hb
  exact (by decide : ∀ i, i < 5 → mdcr2Mask.getLsbD i = true) i hi

/-- SDCR's bits are bits of MDCR_EL3. -/
theorem within_sdcrMask (c : Config) : Within (sdcrMask c) (mdcr3Mask c) := by
  unfold Within sdcrMask mdcr3Mask
  cases c.haveExternalPMU <;> decide

/-- The bits of MDCR_EL3 that a Warm reset leaves free exist in every implementation. -/
theorem within_warmMdcr3 (c : Config) (a32 : Bool) :
    Within (if a32 then 0x00013640 else 0x0011F640) (mdcr3Mask c) := by
  unfold Within mdcr3Mask
  cases c.haveExternalPMU <;> cases a32 <;> decide

/-- Bits [28:24] of the upper word are bits [60:56] of PMPCSR. -/
theorem pcsr_reserved (hi lo : W32) (h : hi &&& 0x1F000000 = 0) :
    (hi ++ lo : W64) &&& 0x1F00000000000000 = 0 := by
  have e : (0x1F00000000000000 : W64) = (0x1F000000 : W32) ++ (0 : W32) := by decide
  rw [e, BitVec.and_append, h]
  simp

/-- The upper word of a sample has no reserved bit. -/
theorem sampleWord_reserved (ns : BitVec 1) (el : BitVec 2) (pc : BitVec 24) :
    ((ns ++ el ++ 0#5 ++ pc : W32) &&& 0x1F000000) = 0 := by
  have e : (0x1F000000 : W32) = (0#1 ++ 0#2 ++ 0x1F#5 ++ 0#24 : W32) := by decide
  rw [e, BitVec.and_append, BitVec.and_append, BitVec.and_append]
  simp

/-! ### The PMU -/

/-- PMCR, the cycle counter, the event counters and the overflow flags change: the flags keep to the implementation's bits
and the event counters that do not exist stay as they are. -/
theorem PmuInv.countersChanged {c : Config} {p q : Pmu} (h : PmuInv c p) (hov : Within q.ovs (implMask c))
    (hev : ∀ n, c.n.val ≤ n → evcntAt q n = evcntAt p n)
    (hq : ∃ cr cc d e o, q = { p with cr := cr, ccnt := cc, div64 := d, evcnt := e, ovs := o }) : PmuInv c q := by
  obtain ⟨hcn, hin, -, hcf, hpc, hty, hz⟩ := h
  have hev0 : ∀ n, c.n.val ≤ n → evcntAt q n = 0 := fun n hn => (hev n hn).trans (hz n hn).2
  obtain ⟨cr, cc, d, e, o, rfl⟩ := hq
  exact ⟨hcn, hin, hov, hcf, hpc, hty, fun n hn => ⟨(hz n hn).1, hev0 n hn⟩⟩

theorem PmuInv.cnten {c : Config} {p : Pmu} (h : PmuInv c p) : Within p.cnten (implMask c) := by
  obtain ⟨hcn, -⟩ := h
  exact hcn

theorem PmuInv.inten {c : Config} {p : Pmu} (h : PmuInv c p) : Within p.inten (implMask c) := by
  obtain ⟨-, hin, -⟩ := h
  exact hin

theorem PmuInv.ovs {c : Config} {p : Pmu} (h : PmuInv c p) : Within p.ovs (implMask c) := by
  obtain ⟨-, -, hov, -⟩ := h
  exact hov

theorem PmuInv.ccfilt {c : Config} {p : Pmu} (h : PmuInv c p) : Within p.ccfilt (filterMask c) := by
  obtain ⟨-, -, -, hcf, -⟩ := h
  exact hcf

theorem PmuInv.evtype {c : Config} {p : Pmu} {n : Nat} (h : PmuInv c p) (hn : n < c.n.val) :
    Within (evtypeAt p n) (typeMask c) := by
  obtain ⟨-, -, -, -, -, hty, -⟩ := h
  exact hty n hn

/-- Counters that exist are incremented. -/
theorem PmuInv.counted {c : Config} {p q : Pmu} {hit : Nat → Prop} {k : Nat} (h : PmuInv c p)
    (hc : Counted hit k p q) (hhit : ∀ n, hit n → n < c.n.val) : PmuInv c q := by
  obtain ⟨hq, -, hmiss, hovs⟩ := hc
  have hN := c.n.isLt
  have hov := (within_iff _ _).mp h.ovs
  refine h.countersChanged ((within_iff _ _).mpr fun i hi hb => ?_)
    (fun n hn => hmiss n fun hh => absurd (hhit n hh) (by omega)) ⟨_, _, _, _, _, hq⟩
  rcases (hovs i hi).mp hb with hp | ⟨hh, -⟩
  · exact hov i hi hp
  · exact (getLsbD_counterMask _ _ (by omega) hi).mpr (.inr (hhit i hh))

/-- The cycle counter is incremented. -/
theorem PmuInv.cycleCounted {c : Config} {p q : Pmu} {lc : Bool} (h : PmuInv c p) (hc : CycleCounted lc p q) :
    PmuInv c q := by
  obtain ⟨hq, hovs⟩ := hc
  have hN := c.n.isLt
  have hov := (within_iff _ _).mp h.ovs
  refine h.countersChanged ((within_iff _ _).mpr fun i hi hb => ?_) (fun n _ => by rw [hq]; rfl) ⟨_, _, _, _, _, hq⟩
  rcases (hovs i hi).mp hb with hp | ⟨h31, -⟩
  · exact hov i hi hp
  · exact (getLsbD_counterMask _ _ (by omega) hi).mpr (.inl h31)

/-- PMCR is written. -/
theorem PmuInv.pmcrWritten {c : Config} {p q : Pmu} {limit : Nat} {v : W32} (h : PmuInv c p)
    (hw : PmcrWritten c limit v p q) (hl : limit ≤ c.n.val) : PmuInv c q := by
  obtain ⟨hq, hev⟩ := hw
  refine h.countersChanged (by rw [hq]; exact h.ovs) (fun n hn => ?_) ⟨_, _, _, _, _, hq⟩
  rw [hev, if_neg (by omega)]

/-- A counter that exists is written. -/
theorem PmuInv.setEvcnt {c : Config} {p : Pmu} {n : Nat} (v : W32) (h : PmuInv c p) (hn : n < c.n.val) :
    PmuInv c (setEvcnt n v p) := by
  have hq := setEvcnt_eq n v p
  exact h.countersChanged (by rw [hq]; exact h.ovs) (fun m hm => evcntAt_setEvcnt_other n m v p (by omega))
    ⟨_, _, _, _, _, hq⟩

/-- The type of a counter that exists is written. -/
theorem PmuInv.setEvtype {c : Config} {p : Pmu} {n : Nat} {v : W32} (h : PmuInv c p) (hn : n < c.n.val)
    (hv : Within v (typeMask c)) : PmuInv c (setEvtype n v p) := by
  have hN := c.n.isLt
  have hother := fun m (hm : m ≠ n) => evtypeAt_setEvtype_other n m v p hm
  have hsame := evtypeAt_setEvtype_same n v p (by omega)
  obtain ⟨hcn, hin, hov, hcf, hpc, hty, hz⟩ := h
  rw [setEvtype_eq] at hother hsame ⊢
  refine ⟨hcn, hin, hov, hcf, hpc, fun m hm => ?_, fun m hm => ⟨?_, (hz m hm).2⟩⟩
  · by_cases e : m = n
    · rw [e, hsame]; exact hv
    · rw [hother m e]; exact hty m hm
  · rw [hother m (by omega)]; exact (hz m hm).1

/-- Words that replace the enables, the interrupt enables and the overflow flags. -/
theorem PmuInv.masks {c : Config} {p : Pmu} {cn it ov : W32} (h : PmuInv c p) (hcn : Within cn (implMask c))
    (hin : Within it (implMask c)) (hov : Within ov (implMask c)) :
    PmuInv c { p with cnten := cn, inten := it, ovs := ov } := by
  obtain ⟨-, -, -, hcf, hpc, hty, hz⟩ := h
  exact ⟨hcn, hin, hov, hcf, hpc, hty, hz⟩

/-- The filter of the cycle counter is written. -/
theorem PmuInv.withCcfilt {c : Config} {p : Pmu} {f : W32} (h : PmuInv c p) (hf : Within f (filterMask c)) :
    PmuInv c { p with ccfilt := f } := by
  obtain ⟨hcn, hin, hov, -, hpc, hty, hz⟩ := h
  exact ⟨hcn, hin, hov, hf, hpc, hty, hz⟩

/-- The PC-sample registers and IME are written. -/
theorem PmuInv.sampled {c : Config} {p : Pmu} {pcsr : W64} (h : PmuInv c p) (hpc : pcsr &&& 0x1F00000000000000 = 0)
    (cid1 cid2 : W32) (vid : BitVec 16) (ime : Bool) :
    PmuInv c { p with pcsr := pcsr, cid1 := cid1, cid2 := cid2, vid := vid, ime := ime } := by
  obtain ⟨hcn, hin, hov, hcf, -, hty, hz⟩ := h
  exact ⟨hcn, hin, hov, hcf, hpc, hty, hz⟩

/-! ### The machine -/

/-- The state meets the invariant and its parameters are c. -/
structure MeetsInv (c : Config) (s : State) : Prop where
  cfg : s.cfg = c
  legal : c.legal = true
  pmu : PmuInv c s.pmu
  ctl : CtlInv c s.ctl
  mem : memWf s.mem = true
  rwBits : rwAgrees s = true

theorem meetsInv_iff (c : Config) (s : State) : MeetsInv c s ↔ StateInv s ∧ s.cfg = c := by
  constructor
  · rintro ⟨rfl, hl, hp, ht, hm, hr⟩
    exact ⟨⟨hl, hp, ht, hm, hr⟩, rfl⟩
  · rintro ⟨⟨hl, hp, ht, hm, hr⟩, rfl⟩
    exact ⟨rfl, hl, hp, ht, hm, hr⟩

/-- The answer of a step, if it is a next state, meets the invariant. -/
def OutMeetsInv (c : Config) : Out → Prop
  | .next s => MeetsInv c s
  | .fault _ => True
  | .refused _ => True

section
variable {c : Config} {s s' : State}

/-- The invariant reads the parameters, the PMU, the context registers, the memory and the Execution states. -/
theorem MeetsInv.congr (h : MeetsInv c s) (hc : s'.cfg = s.cfg := by simp) (hp : s'.pmu = s.pmu := by simp)
    (ht : s'.ctl = s.ctl := by simp) (hm : s'.mem = s.mem := by simp)
    (h0 : s'.pe.aa32El0 = s.pe.aa32El0 := by simp) (h1 : s'.pe.aa32El1 = s.pe.aa32El1 := by simp)
    (h2 : s'.pe.aa32El2 = s.pe.aa32El2 := by simp) (h3 : s'.pe.aa32El3 = s.pe.aa32El3 := by simp) : MeetsInv c s' where
  cfg := hc.trans h.cfg
  legal := h.legal
  pmu := hp ▸ h.pmu
  ctl := ht ▸ h.ctl
  mem := hm ▸ h.mem
  rwBits := (rwAgrees_congr hc (by rw [ht]) (by rw [ht]) h0 h1 h2 h3).trans h.rwBits

/-- A change of the PMU and of the context registers that no Execution state depends on. -/
theorem MeetsInv.changed (h : MeetsInv c s) {p : Pmu} {t : Ctl} (hp : PmuInv c p) (ht : CtlInv c t)
    (hs : t.scr = s.ctl.scr) (hh : t.hcr = s.ctl.hcr) : MeetsInv c { s with pmu := p, ctl := t } where
  cfg := h.cfg
  legal := h.legal
  pmu := hp
  ctl := ht
  mem := h.mem
  rwBits := (rwAgrees_congr (s := s) (s' := { s with pmu := p, ctl := t }) rfl hs hh rfl rfl rfl rfl).trans h.rwBits

/-- A change of the PMU alone. -/
theorem MeetsInv.pmuChanged (h : MeetsInv c s) (hp : PmuInv c s'.pmu) (hs : s' = { s with pmu := s'.pmu } := by rfl) :
    MeetsInv c s' := by
  rw [hs]
  exact h.changed hp h.ctl rfl rfl

/-- A change of context registers other than SCR and HCR. -/
theorem MeetsInv.ctlChanged (h : MeetsInv c s) {t : Ctl} (ht : CtlInv c t) (hs : t.scr = s.ctl.scr)
    (hh : t.hcr = s.ctl.hcr) : MeetsInv c { s with ctl := t } :=
  h.changed h.pmu ht hs hh

theorem MeetsInv.bump (k : Nat) (h : MeetsInv c s) : MeetsInv c (bump k s) := h.congr
theorem MeetsInv.retire (h : MeetsInv c s) : MeetsInv c (retire s) := h.congr
theorem MeetsInv.respond (r : Response) (h : MeetsInv c s) : MeetsInv c (respond r s) := h.congr
theorem MeetsInv.writeX (t : BitVec 5) (v : W64) (h : MeetsInv c s) : MeetsInv c (writeX t v s) := h.congr
theorem MeetsInv.writeR (t : BitVec 4) (v : W32) (h : MeetsInv c s) : MeetsInv c (writeR t v s) := h.congr
theorem MeetsInv.withEnv (e : Env) (h : MeetsInv c s) : MeetsInv c { s with env := e } := h.congr

/-- An exception entry leaves the Execution states. -/
theorem takeException_execStates (x : Exc) (s : State) :
    (takeException x s).pe.aa32El0 = s.pe.aa32El0 ∧ (takeException x s).pe.aa32El1 = s.pe.aa32El1 ∧
      (takeException x s).pe.aa32El2 = s.pe.aa32El2 ∧ (takeException x s).pe.aa32El3 = s.pe.aa32El3 := by
  cases x with
  | toAArch64 t _ => cases t <;> exact ⟨rfl, rfl, rfl, rfl⟩
  | toUndefined => exact ⟨rfl, rfl, rfl, rfl⟩
  | toHyp _ => exact ⟨rfl, rfl, rfl, rfl⟩

/-- An exception entry changes SCR alone of the context registers. -/
theorem entryCtl_eq (x : Exc) (s : State) : entryCtl x s = { s.ctl with scr := (entryCtl x s).scr } := by
  unfold entryCtl
  split
  · split <;> rfl
  · rfl

theorem MeetsInv.takeException (x : Exc) (h : MeetsInv c s) : MeetsInv c (takeException x s) := by
  obtain ⟨h0, h1, h2, h3⟩ := takeException_execStates x s
  have hctl : CtlInv c (entryCtl x s) := by
    rw [entryCtl_eq]
    exact h.ctl
  have hrw : rwAgrees (Machine.takeException x s) = true :=
    (rwAgrees_congr (s := { s with ctl := entryCtl x s }) (s' := Machine.takeException x s) rfl rfl rfl h0 h1 h2 h3).trans
      (rwAgrees_entry h.rwBits x)
  exact ⟨h.cfg, h.legal, h.pmu, hctl, h.mem, hrw⟩

/-! ### Writes of the PMU registers -/

/-- What a System register access sees exists. -/
theorem MeetsInv.visibleMask (h : MeetsInv c s) (v : W32) : Within (v &&& visibleMask s) (implMask c) :=
  within_cut v (h.cfg ▸ within_visibleMask s)

/-- The accessible counters exist. -/
theorem MeetsInv.accessibleN_le (h : MeetsInv c s) : accessibleN s ≤ c.n.val := h.cfg ▸ Machine.accessibleN_le s

theorem MeetsInv.setCnten {v : W32} (h : MeetsInv c s) (hv : Within v (implMask c)) : MeetsInv c (setCnten v s) :=
  h.pmuChanged (h.pmu.masks (within_or h.pmu.cnten hv) h.pmu.inten h.pmu.ovs)

theorem MeetsInv.clearCnten (v : W32) (h : MeetsInv c s) : MeetsInv c (clearCnten v s) :=
  h.pmuChanged (h.pmu.masks (within_and _ h.pmu.cnten) h.pmu.inten h.pmu.ovs)

theorem MeetsInv.setInten {v : W32} (h : MeetsInv c s) (hv : Within v (implMask c)) : MeetsInv c (setInten v s) :=
  h.pmuChanged (h.pmu.masks h.pmu.cnten (within_or h.pmu.inten hv) h.pmu.ovs)

theorem MeetsInv.clearInten (v : W32) (h : MeetsInv c s) : MeetsInv c (clearInten v s) :=
  h.pmuChanged (h.pmu.masks h.pmu.cnten (within_and _ h.pmu.inten) h.pmu.ovs)

theorem MeetsInv.setOvs {v : W32} (h : MeetsInv c s) (hv : Within v (implMask c)) : MeetsInv c (setOvs v s) :=
  h.pmuChanged (h.pmu.masks h.pmu.cnten h.pmu.inten (within_or h.pmu.ovs hv))

theorem MeetsInv.clearOvs (v : W32) (h : MeetsInv c s) : MeetsInv c (clearOvs v s) :=
  h.pmuChanged (h.pmu.masks h.pmu.cnten h.pmu.inten (within_and _ h.pmu.ovs))

theorem MeetsInv.writePmcr {limit : Nat} (v : W32) (h : MeetsInv c s) (hl : limit ≤ c.n.val) :
    MeetsInv c (writePmcr v limit s) := by
  obtain rfl := h.cfg
  have hN := s.cfg.n.isLt
  exact h.pmuChanged (h.pmu.pmcrWritten (writePmcr_written s v limit (by omega)) hl)

theorem MeetsInv.softwareIncrement {limit : Nat} (v : W32) (h : MeetsInv c s) (hl : limit ≤ c.n.val) :
    MeetsInv c (softwareIncrement v limit s) := by
  have hN := c.n.isLt
  exact h.pmuChanged (h.pmu.counted (softwareIncrement_counted s v limit (by omega))
    fun n hn => Nat.lt_of_lt_of_le hn.1 hl)

theorem MeetsInv.writeSel (v : W32) (h : MeetsInv c s) : MeetsInv c (writeSel v s) := h.pmuChanged h.pmu
theorem MeetsInv.writeUseren (v : W32) (h : MeetsInv c s) : MeetsInv c (writeUseren v s) := h.pmuChanged h.pmu
theorem MeetsInv.writeCcnt (v : W64) (h : MeetsInv c s) : MeetsInv c (writeCcnt v s) := h.pmuChanged h.pmu
theorem MeetsInv.writeCcntLo (v : W32) (h : MeetsInv c s) : MeetsInv c (writeCcntLo v s) := h.pmuChanged h.pmu
theorem MeetsInv.writeCcntHi (v : W32) (h : MeetsInv c s) : MeetsInv c (writeCcntHi v s) := h.pmuChanged h.pmu
theorem MeetsInv.writePmitctrl (v : W32) (h : MeetsInv c s) : MeetsInv c (writePmitctrl v s) := h.pmuChanged h.pmu

theorem MeetsInv.writeCcfilt (v : W32) (h : MeetsInv c s) : MeetsInv c (writeCcfilt v s) := by
  obtain rfl := h.cfg
  exact h.pmuChanged (h.pmu.withCcfilt (within_cut v (within_self _)))

theorem MeetsInv.writeCcfilt32 (v : W32) (h : MeetsInv c s) : MeetsInv c (writeCcfilt32 v s) := by
  obtain rfl := h.cfg
  exact h.pmuChanged (h.pmu.withCcfilt
    (within_or (within_and _ (within_cut v (within_self _))) (within_and _ h.pmu.ccfilt)))

theorem MeetsInv.writeEvcnt {n : Nat} (v : W32) (h : MeetsInv c s) (hn : n < c.n.val) : MeetsInv c (writeEvcnt n v s) :=
  h.pmuChanged (h.pmu.setEvcnt v hn)

theorem MeetsInv.writeEvtype {n : Nat} (v : W32) (h : MeetsInv c s) (hn : n < c.n.val) :
    MeetsInv c (writeEvtype n v s) := by
  obtain rfl := h.cfg
  exact h.pmuChanged (h.pmu.setEvtype hn (within_cut v (within_self _)))

theorem MeetsInv.writeEvtype32 {n : Nat} (v : W32) (h : MeetsInv c s) (hn : n < c.n.val) :
    MeetsInv c (writeEvtype32 n v s) := by
  obtain rfl := h.cfg
  exact h.pmuChanged (h.pmu.setEvtype hn
    (within_or (within_and _ (within_cut v (within_self _))) (within_and _ (h.pmu.evtype hn))))

theorem MeetsInv.writeXtype {n : Nat} (v : W32) (h : MeetsInv c s) (hn : n < c.n.val ∨ n = 31) :
    MeetsInv c (writeXtype n v s) := by
  unfold Machine.writeXtype
  split
  · exact h.writeCcfilt v
  · exact h.writeEvtype v (hn.resolve_right ‹_›)

theorem MeetsInv.writeXtype32 {n : Nat} (v : W32) (h : MeetsInv c s) (hn : n < c.n.val ∨ n = 31) :
    MeetsInv c (writeXtype32 n v s) := by
  unfold Machine.writeXtype32
  split
  · exact h.writeCcfilt32 v
  · exact h.writeEvtype32 v (hn.resolve_right ‹_›)

theorem MeetsInv.writePmlar (mm : Bool) (v : W32) (h : MeetsInv c s) : MeetsInv c (writePmlar mm v s) := by
  unfold Machine.writePmlar
  split
  · exact h.pmuChanged h.pmu
  · exact h

theorem MeetsInv.extSwinc (v : W32) (h : MeetsInv c s) : MeetsInv c (extSwinc v s) := by
  obtain rfl := h.cfg
  exact (h.softwareIncrement _ (Nat.le_refl _)).bump 1

theorem MeetsInv.latch {hi : W32} (lo cid1 cid2 : W32) (vid : BitVec 16) (h : MeetsInv c s)
    (hhi : hi &&& 0x1F000000 = 0) : MeetsInv c (latch lo hi cid1 cid2 vid s) :=
  (h.pmuChanged (s' := { s with pmu := { s.pmu with
      pcsr := hi ++ lo, cid1 := cid1, cid2 := if s.cfg.haveEL2 then cid2 else 0, vid := vid &&& vidMask s.cfg } })
    (h.pmu.sampled (pcsr_reserved hi lo hhi) _ _ _ _)).bump 6

theorem MeetsInv.samplePc (h : MeetsInv c s) : MeetsInv c (samplePc s).2 := by
  unfold Machine.samplePc
  dsimp only
  split
  · exact h.latch _ _ _ _ (by rw [BitVec.and_assoc]; simp [pcsrHiMask])
  · exact h.latch _ _ _ _ (sampleWord_reserved _ _ _)

theorem MeetsInv.readPcsrLo (lock : Bool) (h : MeetsInv c s) : MeetsInv c (readPcsrLo lock s).2 := by
  unfold Machine.readPcsrLo
  split
  · exact h
  · exact h.samplePc

/-! ### Counting steps -/

theorem MeetsInv.eventStep (e : BitVec 16) (x : Ctx) (src : Source) (k : Nat) (h : MeetsInv c s) :
    MeetsInv c (eventStep e x src k s) := by
  obtain rfl := h.cfg
  have hN := s.cfg.n.isLt
  exact (h.pmuChanged (h.pmu.counted (counted_forCounters (countsEvent s e x src) k s.cfg.n.val (by omega) s.pmu)
    fun n hn => hn.1)).bump 1

theorem MeetsInv.cycleStep (x : Ctx) (h : MeetsInv c s) : MeetsInv c (cycleStep x s) := by
  unfold Machine.cycleStep
  split
  · split
    · exact h.pmuChanged (h.pmu.cycleCounted (incrementCycle_counted _ _))
    · have hd : PmuInv c { s.pmu with div64 := s.pmu.div64 + 1 } := h.pmu
      dsimp only
      split
      · exact h.pmuChanged (hd.cycleCounted (incrementCycle_counted _ _))
      · exact h.pmuChanged hd
  · exact h

/-! ### Context registers -/

/-- A write of a context register through AArch64 sets no RES0 bit. -/
theorem CtlInv.ctxWrite64 {t : Ctl} (r : Ctx64Reg) (v : W64) (h : CtlInv c t) : CtlInv c (ctxWrite64 c r v t) := by
  obtain ⟨h2, h3, hsd, hst⟩ := h
  cases r with
  | mdcrEl2 =>
    unfold Machine.ctxWrite64
    dsimp only
    split
    · exact ⟨within_mergeBits _ (within_self _) h2, h3, hsd, hst⟩
    · exact ⟨h2, h3, hsd, hst⟩
  | mdcrEl3 => exact ⟨h2, within_mergeBits _ (within_self _) h3, hsd, hst⟩
  | sder32El3 => exact ⟨h2, h3, within_mergeBits _ (within_self _) hsd, hst⟩
  | hstrEl2 =>
    unfold Machine.ctxWrite64
    dsimp only
    split
    · exact ⟨h2, h3, hsd, within_mergeBits _ (within_self _) hst⟩
    · exact ⟨h2, h3, hsd, hst⟩
  | hcrEl2 =>
    unfold Machine.ctxWrite64
    dsimp only
    split <;> exact ⟨h2, h3, hsd, hst⟩
  | scrEl3 | oslarEl1 | osdlrEl1 | dbgprcrEl1 | oslsrEl1 | idAa64dfr0El1 | idDfr0El1 | mpidrEl1 | currentEl =>
    exact ⟨h2, h3, hsd, hst⟩

/-- A write of a context register through AArch32 sets no RES0 bit. -/
theorem CtlInv.ctxWrite32 {t : Ctl} (r : Ctx32Reg) (v : W32) (h : CtlInv c t) : CtlInv c (ctxWrite32 c r v t) := by
  obtain ⟨h2, h3, hsd, hst⟩ := h
  have hk : Within hdcrMask mdcr2Mask := by unfold Within; decide
  cases r with
  | hdcr =>
    unfold Machine.ctxWrite32
    dsimp only
    split
    · exact ⟨within_mergeBits _ hk h2, h3, hsd, hst⟩
    · exact ⟨h2, h3, hsd, hst⟩
  | sdcr => exact ⟨h2, within_mergeBits _ (within_sdcrMask c) h3, hsd, hst⟩
  | sder => exact ⟨h2, h3, within_mergeBits _ (within_self _) hsd, hst⟩
  | hstr =>
    unfold Machine.ctxWrite32
    dsimp only
    split
    · exact ⟨h2, h3, hsd, within_mergeBits _ (within_self _) hst⟩
    · exact ⟨h2, h3, hsd, hst⟩
  | hcr =>
    unfold Machine.ctxWrite32
    dsimp only
    split <;> exact ⟨h2, h3, hsd, hst⟩
  | scr | idDfr0 => exact ⟨h2, h3, hsd, hst⟩

/-- SCR and HCR change only by writes of the registers that control the Execution states. -/
theorem ctxWrite64_keepsControls {r : Ctx64Reg} (c : Config) (v : W64) (t : Ctl) (hr : controls64 r = false) :
    (ctxWrite64 c r v t).scr = t.scr ∧ (ctxWrite64 c r v t).hcr = t.hcr := by
  cases r with
  | scrEl3 | hcrEl2 => cases hr
  | mdcrEl2 | hstrEl2 =>
    unfold ctxWrite64
    dsimp only
    split <;> exact ⟨rfl, rfl⟩
  | mdcrEl3 | sder32El3 | oslarEl1 | osdlrEl1 | dbgprcrEl1 | oslsrEl1 | idAa64dfr0El1 | idDfr0El1 | mpidrEl1
  | currentEl => exact ⟨rfl, rfl⟩

theorem ctxWrite32_keepsControls {r : Ctx32Reg} (c : Config) (v : W32) (t : Ctl) (hr : controls32 r = false) :
    (ctxWrite32 c r v t).scr = t.scr ∧ (ctxWrite32 c r v t).hcr = t.hcr := by
  cases r with
  | scr | hcr => cases hr
  | hdcr | hstr =>
    unfold ctxWrite32
    dsimp only
    split <;> exact ⟨rfl, rfl⟩
  | sdcr | sder | idDfr0 => exact ⟨rfl, rfl⟩

theorem MeetsInv.finishCtx {controls : Bool} {t : Ctl} (h : MeetsInv c s) (ht : CtlInv c t)
    (hsame : controls = false → t.scr = s.ctl.scr ∧ t.hcr = s.ctl.hcr) : MeetsInv c (finishCtx controls t s) := by
  cases controls with
  | false =>
    obtain ⟨hs, hh⟩ := hsame rfl
    exact (h.ctlChanged ht hs hh).retire
  | true =>
    exact
      { cfg := (controlChanged_cfg _).trans h.cfg
        legal := h.legal
        pmu := (controlChanged_pmu _).symm ▸ h.pmu
        ctl := (controlChanged_ctl _).symm ▸ ht
        mem := (controlChanged_mem _).symm ▸ h.mem
        rwBits := rwAgrees_controlChanged _ }

theorem MeetsInv.finishMrs (t : BitVec 5) (v : W64) (k : Nat) (h : MeetsInv c s) : MeetsInv c (finishMrs t v k s) :=
  ((h.writeX t v).bump k).retire

theorem MeetsInv.finishMrc (t : BitVec 4) (v : W32) (k : Nat) (h : MeetsInv c s) : MeetsInv c (finishMrc t v k s) :=
  ((h.writeR t v).bump k).retire

theorem MeetsInv.ctxAccess64 (r : Ctx64Reg) (wr : Bool) (t : BitVec 5) (h : MeetsInv c s) :
    MeetsInv c (ctxAccess64 r wr t s) := by
  obtain rfl := h.cfg
  unfold Machine.ctxAccess64
  split
  · exact h.takeException _
  · split
    · exact h.finishCtx (h.ctl.ctxWrite64 r _) (ctxWrite64_keepsControls _ _ _)
    · exact h.finishMrs t _ 1

/-- An AArch32 instruction that runs to a state that meets the invariant, or is refused, or fails its condition. -/
theorem MeetsInv.conditional32 {run : State → State} (x : BitVec 4) (ok : Bool) (h : MeetsInv c s)
    (hr : MeetsInv c (run s)) : OutMeetsInv c (conditional32 x ok run s) := by
  unfold Machine.conditional32
  split
  · split
    · exact hr
    · trivial
  · exact h.retire

theorem MeetsInv.ctxAccess32 (r : Ctx32Reg) (wr : Bool) (x t : BitVec 4) (h : MeetsInv c s) :
    OutMeetsInv c (ctxAccess32 r wr x t s) := by
  obtain rfl := h.cfg
  refine h.conditional32 x _ ?_
  split
  · exact h.takeException _
  · split
    · exact h.finishCtx (h.ctl.ctxWrite32 r _) (ctxWrite32_keepsControls _ _ _)
    · exact h.finishMrc t _ 1

theorem MeetsInv.ctxAccess (a : CtxAccess) (h : MeetsInv c s) : OutMeetsInv c (ctxAccess a s) := by
  cases a with
  | a64 r wr t => exact h.ctxAccess64 r wr t
  | a32 r wr x t => exact h.ctxAccess32 r wr x t

/-- The OS Lock, CORENPDRQ and SPMAD take values. -/
theorem MeetsInv.osBits (oslk corenpdrq spmad : Bool) (h : MeetsInv c s) :
    MeetsInv c { s with ctl := { s.ctl with oslk := oslk, corenpdrq := corenpdrq, spmad := spmad } } :=
  h.ctlChanged (t := { s.ctl with oslk := oslk, corenpdrq := corenpdrq, spmad := spmad }) h.ctl rfl rfl

theorem MeetsInv.markSpmad (mm : Bool) (h : MeetsInv c s) : MeetsInv c (markSpmad mm s) :=
  (h.osBits _ _ _).bump 1

theorem MeetsInv.readEdprsr (lock : Bool) (h : MeetsInv c s) : MeetsInv c (readEdprsr lock s) :=
  ((h.osBits _ _ _).respond _).bump 2

/-! ### The three access procedures -/

theorem MeetsInv.access64 {r : A64Reg} {wr : Bool} {t : BitVec 5} {body : Nat → State → State} (h : MeetsInv c s)
    (hb : ∀ n, counterReach s (counterUse64 r) = .run n → MeetsInv c (body n s)) :
    OutMeetsInv c (.next (access64 r wr t body s)) :=
  access64_cases (MeetsInv c) h.takeException hb (h.writeX t 0).retire h.retire

theorem MeetsInv.mrs {r : A64Reg} {wr : Bool} {t : BitVec 5} {v : Nat → State → W64} {k : Nat} (h : MeetsInv c s) :
    OutMeetsInv c (.next (Machine.access64 r wr t (fun n s => Machine.finishMrs t (v n s) k s) s)) :=
  h.access64 fun _ _ => h.finishMrs t _ k

theorem MeetsInv.mcr {r : A32Reg} {x t : BitVec 4} {body : Nat → State → State} (h : MeetsInv c s)
    (hb : ∀ n, counterReach s (counterUse32 r) = .run n → MeetsInv c (body n s)) :
    OutMeetsInv c (mcr32 r x t body s) :=
  h.conditional32 x _ (access32_cases (MeetsInv c) h.takeException hb h.retire h.retire)

theorem MeetsInv.mrc {r : A32Reg} {x t : BitVec 4} {v : Nat → State → W32} {k : Nat} (h : MeetsInv c s) :
    OutMeetsInv c (mrc32 r x t (fun n s => Machine.finishMrc t (v n s) k s) s) :=
  h.conditional32 x _
    (access32_cases (MeetsInv c) h.takeException (fun _ _ => h.finishMrc t _ k) (h.writeR t 0).retire h.retire)

theorem MeetsInv.mrrc (x t t2 : BitVec 4) (h : MeetsInv c s) : OutMeetsInv c (execMrrcPmccntr x t t2 s) :=
  h.conditional32 x _
    (access32_cases (MeetsInv c) h.takeException (fun _ _ => ((h.writeR t _).writeR t2 _).retire)
      ((h.writeR t 0).writeR t2 0).retire h.retire)

theorem MeetsInv.mcrr (x t t2 : BitVec 4) (h : MeetsInv c s) : OutMeetsInv c (execMcrrPmccntr x t t2 s) :=
  h.conditional32 x _
    (access32_cases (MeetsInv c) h.takeException (fun _ _ => (h.writeCcnt _).retire) h.retire h.retire)

/-- A counter that an access reaches exists, unless PMSELR may select the cycle counter's filter. -/
theorem MeetsInv.reached_lt {u : CounterUse} {n : Nat} (h : MeetsInv c s) (hr : counterReach s u = .run n)
    (hu : u ≠ .none) (ht : u ≠ .selectedType) : n < c.n.val := by
  rcases counterReach_run hr with e | hn | ⟨-, e⟩
  · exact absurd e hu
  · exact Nat.lt_of_lt_of_le hn h.accessibleN_le
  · exact absurd e ht

/-- The type register that PMSELR selects exists, or is the cycle counter's filter. -/
theorem MeetsInv.selectedType_lt {n : Nat} (h : MeetsInv c s) (hr : counterReach s .selectedType = .run n) :
    n < c.n.val ∨ n = 31 := by
  rcases counterReach_run hr with e | hn | ⟨h31, -⟩
  · cases e
  · exact .inl (Nat.lt_of_lt_of_le hn h.accessibleN_le)
  · exact .inr h31

theorem MeetsInv.errorState (b : Blocked) (mm : Bool) (h : MeetsInv c s) : MeetsInv c (errorState b mm s) := by
  cases b with
  | quiet => exact h.respond .error
  | epmad => exact (h.markSpmad mm).respond .error

theorem MeetsInv.extAccess {g : Gate} {op : ExtOp} {mm : Bool} {rd : Bool → State → W32 × State}
    {wr : W32 → State → State} (h : MeetsInv c s) (hr : ∀ lock, MeetsInv c (rd lock s).2)
    (hw : ∀ v, MeetsInv c (wr v s)) : OutMeetsInv c (extAccess g op mm rd wr s) := by
  unfold Machine.extAccess
  split
  · trivial
  · split
    · exact h.errorState _ mm
    · split
      · split
        · exact h.respond .ok
        · exact (hw _).respond .ok
      · exact (hr _).respond _

theorem MeetsInv.extPlain {g : Gate} {op : ExtOp} {mm : Bool} {value : State → W32} {wr : W32 → State → State}
    (h : MeetsInv c s) (hw : ∀ v, MeetsInv c (wr v s)) : OutMeetsInv c (extPlain g op mm value wr s) :=
  h.extAccess (fun _ => h) hw

theorem MeetsInv.extReadOnly {g : Gate} {op : ExtOp} {mm : Bool} {value : State → W32} (h : MeetsInv c s) :
    OutMeetsInv c (extReadOnly g op mm value s) :=
  h.extPlain fun _ => h

theorem MeetsInv.reservedAccess (op : ExtOp) (mm : Bool) (h : MeetsInv c s) : OutMeetsInv c (reservedAccess op mm s) :=
  h.extReadOnly

/-! ### The instructions -/

/-- The low word's read of PMPCSR followed by the high word's. -/
theorem MeetsInv.extPmpcsrLo (alt : Bool) (op : PcsrOp) (mm : Bool) (h : MeetsInv c s) :
    OutMeetsInv c (execExtPmpcsrLo alt op mm s) := by
  have hlo : ∀ op, OutMeetsInv c (Machine.extAccess .coreOpen op mm Machine.readPcsrLo (fun _ s => s) s) :=
    fun op => h.extAccess h.readPcsrLo fun _ => h
  cases op with
  | read =>
    unfold execExtPmpcsrLo
    dsimp only
    split
    · exact hlo .read
    · exact h.reservedAccess _ mm
  | write v =>
    unfold execExtPmpcsrLo
    dsimp only
    split
    · exact hlo (.write v)
    · exact h.reservedAccess _ mm
  | read64 =>
    have hr := hlo .read
    unfold execExtPmpcsrLo
    dsimp only
    split
    · revert hr
      cases Machine.extAccess .coreOpen .read mm Machine.readPcsrLo (fun _ s => s) s with
      | next t =>
        intro ht
        dsimp only
        split
        · exact MeetsInv.respond _ ht
        · exact ht
      | fault r => exact id
      | refused r => exact id
    · trivial

theorem MeetsInv.unknownWord (h : MeetsInv c s) : MeetsInv c (unknownWord s).2 := h.bump 1

theorem MeetsInv.extPmlar (op : ExtOp) (mm : Bool) (h : MeetsInv c s) : OutMeetsInv c (execExtPmlar op mm s) := by
  cases op with
  | write v =>
    unfold execExtPmlar
    dsimp only
    split
    · trivial
    · exact (h.writePmlar mm v).respond .ok
  | read =>
    unfold execExtPmlar
    exact h.extAccess (fun _ => h.unknownWord) fun _ => h

theorem MeetsInv.extPmitctrl (op : ExtOp) (mm : Bool) (h : MeetsInv c s) : OutMeetsInv c (execExtPmitctrl op mm s) := by
  unfold execExtPmitctrl
  split
  · exact h.reservedAccess _ mm
  · exact h.extPlain h.writePmitctrl
  · exact h.extPlain h.writePmitctrl

theorem MeetsInv.extPmswinc (op : ExtOp) (mm : Bool) (h : MeetsInv c s) : OutMeetsInv c (execExtPmswinc op mm s) := by
  unfold execExtPmswinc
  split
  · exact h.reservedAccess _ mm
  · exact h.extAccess (fun _ => h.unknownWord) h.extSwinc

theorem MeetsInv.extPmevcntrn (n : BitVec 5) (op : ExtOp) (mm : Bool) (h : MeetsInv c s) :
    OutMeetsInv c (execExtPmevcntrn n op mm s) := by
  obtain rfl := h.cfg
  unfold execExtPmevcntrn
  split
  · exact h.extPlain fun v => h.writeEvcnt v ‹n.toNat < s.cfg.n.val›
  · exact h.reservedAccess _ mm

theorem MeetsInv.extPmevtypern (n : BitVec 5) (op : ExtOp) (mm : Bool) (h : MeetsInv c s) :
    OutMeetsInv c (execExtPmevtypern n op mm s) := by
  obtain rfl := h.cfg
  unfold execExtPmevtypern
  split
  · exact h.extAccess (fun _ => h.bump 1) fun v => h.writeEvtype v ‹n.toNat < s.cfg.n.val›
  · exact h.reservedAccess _ mm

/-- A read-only register that a PE without PC sampling does not have. -/
theorem MeetsInv.extSampled {g : Gate} {op : ExtOp} {mm : Bool} {value : State → W32} (h : MeetsInv c s) (b : Bool) :
    OutMeetsInv c (if b then Machine.extReadOnly g op mm value s else Machine.reservedAccess op mm s) := by
  split
  · exact h.extReadOnly
  · exact h.reservedAccess op mm

/-- What an external write of a mask register names exists. -/
theorem MeetsInv.implMask (h : MeetsInv c s) (v : W32) : Within (v &&& implMask s.cfg) (implMask c) :=
  within_cut v (h.cfg ▸ within_self _)

/-- Every instruction keeps the invariant: a read changes general registers only, and a write changes the PMU
within the bits and counters that exist. -/
theorem MeetsInv.exec (i : Instr) (h : MeetsInv c s) : OutMeetsInv c (exec i s) := by
  have hN : s.cfg.n.val ≤ c.n.val := Nat.le_of_eq (by rw [h.cfg])
  unfold Machine.exec
  cases i with
  | mrsPmcr | mrsPmcntenset | mrsPmcntenclr | mrsPmovsclr | mrsPmselr | mrsPmceid0 | mrsPmceid1 | mrsPmccntr
  | mrsPmxevtyper | mrsPmxevcntr | mrsPmuserenr | mrsPmintenset | mrsPmintenclr | mrsPmovsset | mrsPmccfiltr
  | mrsPmevcntrn | mrsPmevtypern => exact h.mrs
  | msrPmcr => exact h.access64 fun _ _ => (h.writePmcr _ h.accessibleN_le).retire
  | msrPmcntenset => exact h.access64 fun _ _ => (h.setCnten (h.visibleMask _)).retire
  | msrPmcntenclr => exact h.access64 fun _ _ => (h.clearCnten _).retire
  | msrPmovsclr => exact h.access64 fun _ _ => (h.clearOvs _).retire
  | msrPmswinc => exact h.access64 fun _ _ => (h.softwareIncrement _ h.accessibleN_le).retire
  | msrPmselr => exact h.access64 fun _ _ => (h.writeSel _).retire
  | msrPmccntr => exact h.access64 fun _ _ => (h.writeCcnt _).retire
  | msrPmxevtyper => exact h.access64 fun _ hr => ((h.writeXtype _ (h.selectedType_lt hr)).bump 2).retire
  | msrPmxevcntr => exact h.access64 fun _ hr => ((h.writeEvcnt _ (h.reached_lt hr nofun nofun)).bump 2).retire
  | msrPmuserenr => exact h.access64 fun _ _ => (h.writeUseren _).retire
  | msrPmintenset => exact h.access64 fun _ _ => (h.setInten (h.visibleMask _)).retire
  | msrPmintenclr => exact h.access64 fun _ _ => (h.clearInten _).retire
  | msrPmovsset => exact h.access64 fun _ _ => (h.setOvs (h.visibleMask _)).retire
  | msrPmccfiltr => exact h.access64 fun _ _ => (h.writeCcfilt _).retire
  | msrPmevcntrn => exact h.access64 fun _ hr => (h.writeEvcnt _ (h.reached_lt hr nofun nofun)).retire
  | msrPmevtypern => exact h.access64 fun _ hr => (h.writeEvtype _ (h.reached_lt hr nofun nofun)).retire
  | mrcPmcr | mrcPmcntenset | mrcPmcntenclr | mrcPmovsr | mrcPmselr | mrcPmceid0 | mrcPmceid1 | mrcPmccntr
  | mrcPmxevtyper | mrcPmxevcntr | mrcPmuserenr | mrcPmintenset | mrcPmintenclr | mrcPmovsset | mrcPmceid2
  | mrcPmceid3 | mrcPmccfiltr | mrcPmevcntrn | mrcPmevtypern => exact h.mrc
  | mcrPmcr => exact h.mcr fun _ _ => (h.writePmcr _ h.accessibleN_le).retire
  | mcrPmcntenset => exact h.mcr fun _ _ => (h.setCnten (h.visibleMask _)).retire
  | mcrPmcntenclr => exact h.mcr fun _ _ => (h.clearCnten _).retire
  | mcrPmovsr => exact h.mcr fun _ _ => (h.clearOvs _).retire
  | mcrPmswinc => exact h.mcr fun _ _ => (h.softwareIncrement _ h.accessibleN_le).retire
  | mcrPmselr => exact h.mcr fun _ _ => (h.writeSel _).retire
  | mcrPmccntr => exact h.mcr fun _ _ => (h.writeCcntLo _).retire
  | mcrPmxevtyper => exact h.mcr fun _ hr => ((h.writeXtype32 _ (h.selectedType_lt hr)).bump 2).retire
  | mcrPmxevcntr => exact h.mcr fun _ hr => ((h.writeEvcnt _ (h.reached_lt hr nofun nofun)).bump 2).retire
  | mcrPmuserenr => exact h.mcr fun _ _ => (h.writeUseren _).retire
  | mcrPmintenset => exact h.mcr fun _ _ => (h.setInten (h.visibleMask _)).retire
  | mcrPmintenclr => exact h.mcr fun _ _ => (h.clearInten _).retire
  | mcrPmovsset => exact h.mcr fun _ _ => (h.setOvs (h.visibleMask _)).retire
  | mcrPmccfiltr => exact h.mcr fun _ _ => (h.writeCcfilt32 _).retire
  | mcrPmevcntrn => exact h.mcr fun _ hr => (h.writeEvcnt _ (h.reached_lt hr nofun nofun)).retire
  | mcrPmevtypern => exact h.mcr fun _ hr => (h.writeEvtype32 _ (h.reached_lt hr nofun nofun)).retire
  | mrrcPmccntr x t t2 => exact h.mrrc x t t2
  | mcrrPmccntr x t t2 => exact h.mcrr x t t2
  | extPmevcntrn n op mm => exact h.extPmevcntrn n op mm
  | extPmccntrLo => exact h.extPlain h.writeCcntLo
  | extPmccntrHi => exact h.extPlain h.writeCcntHi
  | extPmpcsrLo alt op mm => exact h.extPmpcsrLo alt op mm
  | extPmpcsrHi | extPmcid1sr | extPmvidsr | extPmcid2sr => exact h.extSampled s.cfg.pcSample
  | extPmevtypern n op mm => exact h.extPmevtypern n op mm
  | extPmccfiltr => exact h.extPlain h.writeCcfilt
  | extPmcntenset => exact h.extPlain fun v => h.setCnten (h.implMask v)
  | extPmcntenclr => exact h.extPlain fun _ => h.clearCnten _
  | extPmintenset => exact h.extPlain fun v => h.setInten (h.implMask v)
  | extPmintenclr => exact h.extPlain fun _ => h.clearInten _
  | extPmovsclr => exact h.extPlain fun _ => h.clearOvs _
  | extPmswinc op mm => exact h.extPmswinc op mm
  | extPmovsset => exact h.extPlain fun v => h.setOvs (h.implMask v)
  | extPmcr => exact h.extPlain fun v => h.writePmcr v hN
  | extPmitctrl op mm => exact h.extPmitctrl op mm
  | extPmlar op mm => exact h.extPmlar op mm
  | extPmcfgr | extPmceid0 | extPmceid1 | extPmceid2 | extPmceid3 | extPmdevaff0 | extPmdevaff1 | extPmlsr
  | extPmauthstatus | extPmdevarch | extPmdevid | extPmdevtype | extPmpidr4 | extPmpidr0 | extPmpidr1 | extPmpidr2
  | extPmpidr3 | extPmcidr0 | extPmcidr1 | extPmcidr2 | extPmcidr3 => exact h.extReadOnly
  | extReserved off op mm => exact h.reservedAccess op mm

/-! ### Resets -/

/-- The slots that a reset draws: those of counters that do not exist stay 0. -/
theorem getElem_unkSlots (s : State) (base : Nat) (mask : W32) (n : Nat) (hn : n < 31) :
    (unkSlots s base mask)[n] = if n < s.cfg.n.val then unkWord s (base + n) &&& mask else 0 := by
  simp [unkSlots]

theorem evcntAt_warmPmu (into : ExecState) (s : State) {n : Nat} (hn : s.cfg.n.val ≤ n) :
    evcntAt (warmPmu into s) n = 0 := by
  unfold evcntAt warmPmu
  split
  · rw [getElem_unkSlots, if_neg (by omega)]
  · rfl

theorem evtypeAt_warmPmu (into : ExecState) (s : State) (n : Nat) :
    evtypeAt (warmPmu into s) n = if n < s.cfg.n.val then unkWord s (140 + n) &&& typeMask s.cfg else 0 := by
  have hN := s.cfg.n.isLt
  unfold evtypeAt warmPmu
  split
  · rw [getElem_unkSlots]
  · rw [if_neg (by omega)]

theorem PmuInv.warmPmu (into : ExecState) (h : PmuInv s.cfg s.pmu) : PmuInv s.cfg (warmPmu into s) := by
  obtain ⟨-, -, -, -, hpc, -, -⟩ := h
  have hcf : Within (if into == .aarch32 then 0 else unkWord s 4 &&& filterMask s.cfg) (filterMask s.cfg) := by
    split
    · exact within_zero _
    · exact within_cut _ (within_self _)
  have hmask (k : Nat) : Within (unkWord s k &&& implMask s.cfg) (implMask s.cfg) := within_cut _ (within_self _)
  refine ⟨hmask 11, hmask 12, hmask 13, hcf, ?_, fun n hn => ?_, fun n hn => ⟨?_, evcntAt_warmPmu into s hn⟩⟩
  · rw [warmPmu_pcsr]
    exact hpc
  · rw [evtypeAt_warmPmu, if_pos hn]
    exact within_cut _ (within_self _)
  · rw [evtypeAt_warmPmu, if_neg (by omega)]

theorem ctlInv_warmCtl (into : ExecState) (s : State) : CtlInv s.cfg (warmCtl into s) := by
  have h2 : Within (if into == .aarch32 then 0x00007080 else 0x00007FE0) mdcr2Mask := by
    unfold Within
    cases into <;> decide
  refine ⟨within_or (within_cut _ h2) (within_hpmn s.cfg.n.isLt), within_cut _ (within_warmMdcr3 _ _), ?_, ?_⟩
  · cases into with
    | aarch64 => exact within_cut _ (within_self _)
    | aarch32 => exact within_zero _
  · cases into with
    | aarch64 => exact within_cut _ (within_self _)
    | aarch32 => exact within_zero _

theorem rwAgrees_warmReset (into : ExecState) (s : State) : rwAgrees (warmReset into s) = true :=
  (rwAgrees_congr (bump_cfg _ _) (by rw [bump_ctl]) (by rw [bump_ctl]) (by rw [bump_pe]) (by rw [bump_pe])
    (by rw [bump_pe]) (by rw [bump_pe])).trans (rwAgrees_settleExec _)

theorem MeetsInv.warmReset (into : ExecState) (h : MeetsInv c s) : MeetsInv c (warmReset into s) := by
  obtain rfl := h.cfg
  exact
    { cfg := warmReset_cfg into s
      legal := h.legal
      pmu := (warmReset_pmu into s).symm ▸ h.pmu.warmPmu into
      ctl := (warmReset_ctl into s).symm ▸ ctlInv_warmCtl into s
      mem := (warmReset_mem into s).symm ▸ h.mem
      rwBits := rwAgrees_warmReset into s }

theorem MeetsInv.coldPart (h : MeetsInv c s) : MeetsInv c (coldPart s) := by
  have hpc (v : W64) : v &&& (pcsrHiMask ++ 0xFFFFFFFF#32) &&& 0x1F00000000000000 = 0 := by
    rw [BitVec.and_assoc, show (pcsrHiMask ++ 0xFFFFFFFF#32 : W64) &&& 0x1F00000000000000 = 0 by decide]
    exact BitVec.and_zero
  have ht : CtlInv c { s.ctl with oslk := true, corenpdrq := unkBit s 4, spmad := false } := h.ctl
  exact (h.changed (h.pmu.sampled (hpc _) _ _ _ _) ht rfl rfl).bump 10

theorem MeetsInv.coldReset (into : ExecState) (h : MeetsInv c s) : MeetsInv c (coldReset into s) :=
  (h.warmReset into).coldPart

theorem MeetsInv.externalDebugReset (h : MeetsInv c s) : MeetsInv c (externalDebugReset s) := h.pmuChanged h.pmu

theorem MeetsInv.resetInto (into : ExecState) {f : State → State} (hf : MeetsInv c (f s)) :
    OutMeetsInv c (resetInto into f s) := by
  unfold Machine.resetInto
  split
  · exact hf
  · trivial

theorem MeetsInv.powerUp (kind : PowerKind) (h : MeetsInv c s) : OutMeetsInv c (powerUp kind s) := by
  have ht := h.withEnv { s.env with powered := true }
  cases kind with
  | retained => exact ht
  | lost into => exact MeetsInv.resetInto into (ht.coldReset into)

/-! ### The step -/

/-- A process state that can occur agrees with the RW bits. -/
theorem rwAgrees_of_legalProcess (h : legalProcess s = true) : rwAgrees s = true := by
  simp only [legalProcess, Bool.and_eq_true] at h
  obtain ⟨⟨-, hrw⟩, -⟩ := h
  exact hrw

/-- A move of the PE to a process state that can occur. -/
theorem MeetsInv.moved {p : Pe} {e : Env} {x : Option Exc} (h : MeetsInv c s)
    (hl : legalProcess { s with pe := p, env := e, exc := x } = true) :
    MeetsInv c { s with pe := p, env := e, exc := x } :=
  ⟨h.cfg, h.legal, h.pmu, h.ctl, h.mem, rwAgrees_of_legalProcess hl⟩

theorem MeetsInv.hsrUnknown (h : MeetsInv c s) : MeetsInv c (hsrUnknown s) := h.congr
theorem MeetsInv.forgetSyndrome (h : MeetsInv c s) : MeetsInv c (forgetSyndrome s) := h.congr

theorem MeetsInv.returnTo (pc : W64) (ps : Proc) (h : MeetsInv c s) : OutMeetsInv c (returnTo pc ps s) := by
  unfold Machine.returnTo
  dsimp only
  split
  · rename_i hl
    exact ((h.moved (Bool.and_eq_true_iff.mp hl).2).hsrUnknown).bump 2
  · trivial

theorem MeetsInv.exceptionReturn (pc : W64) (ps : Proc) (h : MeetsInv c s) :
    OutMeetsInv c (exceptionReturn pc ps s) := by
  unfold Machine.exceptionReturn
  dsimp only
  split
  · trivial
  all_goals exact h.forgetSyndrome.returnTo _ _

theorem MeetsInv.setProcess (p : Proc) (a0 a1 a2 a3 : Bool) (h : MeetsInv c s) :
    OutMeetsInv c (setProcess p a0 a1 a2 a3 s) := by
  have hu : MeetsInv c (if p.el.level < (currentEL s).level then Machine.forgetSyndrome s else s) := by
    split
    · exact h.forgetSyndrome
    · exact h
  unfold Machine.setProcess
  generalize (if p.el.level < (currentEL s).level then Machine.forgetSyndrome s else s) = u at hu ⊢
  dsimp only
  split
  · rename_i hl
    exact ((hu.moved hl).hsrUnknown).bump 2
  · trivial

theorem MeetsInv.whileOn {f : State → Out} (hf : OutMeetsInv c (f s)) : OutMeetsInv c (whileOn f s) := by
  unfold Machine.whileOn
  split
  · exact hf
  · trivial

theorem MeetsInv.whilePowered {f : State → State} (h : MeetsInv c s) (hf : MeetsInv c (f s)) :
    MeetsInv c (whilePowered f s) := by
  unfold Machine.whilePowered
  split
  · exact hf
  · exact h

theorem MeetsInv.runOther (w : W32) (e : DecodeError) (h : MeetsInv c s) : OutMeetsInv c (runOther w e s) := by
  unfold Machine.runOther
  split
  · exact h.takeException _
  · split
    · exact h.takeException _
    · exact h.retire
  · exact h.ctxAccess _
  · trivial

theorem MeetsInv.peStep (h : MeetsInv c s) : OutMeetsInv c (peStep s) := by
  unfold Machine.peStep
  split; · trivial
  split; · trivial
  split; · trivial
  split
  · unfold runWord
    split
    · exact h.exec _
    · exact h.runOther _ _
  · trivial

theorem MeetsInv.busStep (a : BusAccess) (h : MeetsInv c s) : OutMeetsInv c (busStep a s) := by
  unfold Machine.busStep
  split
  · exact h.exec _
  · trivial

theorem MeetsInv.memMappedStep (addr : W64) (size : Nat) (data : Option W32) (h : MeetsInv c s) :
    OutMeetsInv c (memMappedStep addr size data s) := by
  unfold Machine.memMappedStep
  dsimp only
  split
  · exact h.busStep _
  · trivial

theorem MeetsInv.eventInput (e : BitVec 16) (x : Ctx) (src : Source) (k : Nat) (h : MeetsInv c s) :
    OutMeetsInv c (eventInput e x src k s) := by
  unfold Machine.eventInput
  split
  · trivial
  · exact h.whilePowered (h.eventStep e x src k)

theorem MeetsInv.retireOther (h : MeetsInv c s) : MeetsInv c (retireOther s) := by
  unfold Machine.retireOther
  split
  · exact h.withEnv _
  · exact h

theorem MeetsInv.setVbar (target : EL) (v : W64) (h : MeetsInv c s) :
    MeetsInv c { s with pe := setVbar target v s.pe } := by
  cases target <;> exact h.congr rfl rfl rfl rfl rfl rfl rfl rfl

theorem MeetsInv.setMemory (addr : W64) (v : Byte) (h : MeetsInv c s) :
    MeetsInv c { s with mem := memWrite s.mem addr.toNat v } :=
  ⟨h.cfg, h.legal, h.pmu, h.ctl, memWf_memWrite _ _ _ h.mem addr.isLt, h.rwBits⟩

theorem MeetsInv.applyInput (i : Input) (h : MeetsInv c s) : OutMeetsInv c (applyInput i s) := by
  cases i with
  | pe => exact h.peStep
  | bus a => exact h.busStep a
  | memMapped addr size data => exact h.memMappedStep addr size data
  | cycle x => exact h.whilePowered (h.cycleStep x)
  | event e x src k => exact h.eventInput e x src k
  | warmReset into => exact MeetsInv.resetInto into (h.warmReset into)
  | coldReset into => exact MeetsInv.resetInto into (h.coldReset into)
  | externalDebugReset => exact h.externalDebugReset
  | powerUp kind => exact h.powerUp kind
  | powerDown | setDebugState | setResetState | setPcSampleProhibited | setSample => exact h.withEnv _
  | readEdprsr lock => exact h.readEdprsr lock
  | debuggerOslar | debuggerCorenpdrq => exact h.osBits _ _ _
  | readEddfr => exact h.respond _
  | exceptionReturn pc ps => exact MeetsInv.whileOn (h.exceptionReturn pc ps)
  | retireInstruction => exact h.retireOther
  | setX | setR | setPc => exact h.congr
  | setProcess p a0 a1 a2 a3 => exact MeetsInv.whileOn (h.setProcess p a0 a1 a2 a3)
  | setVbar target v => exact h.setVbar target v
  | setMemory addr v => exact h.setMemory addr v

theorem MeetsInv.step (h : MeetsInv c s) : OutMeetsInv c (step s) := by
  have ha : MeetsInv c { s with agenda := (nextInput s).2 } := h.congr
  unfold Machine.step runStep
  dsimp only
  split
  · trivial
  · exact ha.applyInput _

end

/-- Settles O58, by `MeetsInv.step` at the parameters of the state itself. -/
theorem everyStepKeepsInvariant : Obligations.EveryStepKeepsInvariant := by
  intro s s' hs hstep
  have hout : OutMeetsInv s.cfg (step s) := ((meetsInv_iff s.cfg s).mpr ⟨hs, rfl⟩).step
  rw [hstep] at hout
  exact (meetsInv_iff s.cfg s').mp hout

end Sys2Proof.Machine
end

section
/-! PROOFS. What a System register access sees and reaches: the accessible counters and the masks (O7), the filter (O50), and
that no access changes a counter it does not reach (O57). A counter is hidden from an access when its number is not below
AccessibleN(): its bit of every mask is clear, and the counter check lets no access run on it. -/
namespace Sys2Proof.Machine

open Sys2Proof

/-! ### Accessible counters and masks, bit by bit -/

theorem accessibleN_of_not_guest {s : State} (h : ¬ GuestLevel s) : accessibleN s = s.cfg.n.val := by
  unfold accessibleN
  rw [if_neg (mt (guestView_iff s).mp h)]

/-- A guest has the counters below a legal HPMN. -/
theorem accessibleN_of_guest {s : State} (h : GuestLevel s) (h1 : 1 ≤ hpmn s) (hN : hpmn s ≤ s.cfg.n.val) :
    accessibleN s = hpmn s := by
  have hlegal : hpmnLegal s = true := by simp [hpmnLegal, h1, hN]
  unfold accessibleN effHpmn
  rw [if_pos ((guestView_iff s).mpr h), if_pos hlegal]

theorem getLsbD_visibleMask (s : State) {i : Nat} (hi : i < 32) :
    (visibleMask s).getLsbD i = true ↔ i = 31 ∨ i < accessibleN s :=
  getLsbD_counterMask _ i (Nat.le_succ_of_le (accessibleN_le_31 s)) hi

theorem getLsbD_implMask (c : Config) {i : Nat} (hi : i < 32) :
    (implMask c).getLsbD i = true ↔ i = 31 ∨ i < c.n.val :=
  getLsbD_counterMask _ i (Nat.le_of_lt c.n.isLt) hi

/-- Bits that only some implementations have. -/
theorem getLsbD_optional (b : Bool) (m : W32) (i : Nat) :
    (if b = true then m else 0).getLsbD i = true ↔ b = true ∧ m.getLsbD i = true := by
  cases b <;> simp

/-- P and U always, NSK, NSU and M with EL3, NSH with EL2. -/
theorem getLsbD_filterMask (c : Config) {i : Nat} (hi : i < 32) :
    (filterMask c).getLsbD i = true ↔
      i = 31 ∨ i = 30 ∨ (c.haveEL3 = true ∧ (i = 29 ∨ i = 28 ∨ i = 26)) ∨ (c.haveEL2 = true ∧ i = 27) := by
  have always : ∀ j, j < 32 → (BitVec.getLsbD (0xC0000000 : W32) j = true ↔ j = 31 ∨ j = 30) := by decide
  have withEl3 : ∀ j, j < 32 → (BitVec.getLsbD (0x34000000 : W32) j = true ↔ j = 29 ∨ j = 28 ∨ j = 26) := by decide
  have withEl2 : ∀ j, j < 32 → (BitVec.getLsbD (0x08000000 : W32) j = true ↔ j = 27) := by decide
  unfold filterMask
  rw [BitVec.getLsbD_or, BitVec.getLsbD_or, Bool.or_eq_true, Bool.or_eq_true, getLsbD_optional, getLsbD_optional,
    always i hi, withEl3 i hi, withEl2 i hi, or_assoc, or_assoc]

/-- The filter bits, MT on a multithreaded implementation, and the event number. -/
theorem getLsbD_typeMask (c : Config) {i : Nat} (hi : i < 32) :
    (typeMask c).getLsbD i = true ↔
      (filterMask c).getLsbD i = true ∨ (c.isMultithreaded = true ∧ i = 25) ∨ i < 16 := by
  have mtBit : ∀ j, j < 32 → (BitVec.getLsbD (0x02000000 : W32) j = true ↔ j = 25) := by decide
  have evtCountBits : ∀ j, j < 32 → (BitVec.getLsbD (0x0000FFFF : W32) j = true ↔ j < 16) := by decide
  unfold typeMask
  rw [BitVec.getLsbD_or, BitVec.getLsbD_or, Bool.or_eq_true, Bool.or_eq_true, getLsbD_optional, mtBit i hi, evtCountBits i hi,
    or_assoc]

/-- Settles O7, by the lemmas about AccessibleN() and each mask. -/
theorem accessibleCountersAndMasks : Obligations.AccessibleCountersAndMasks := by
  intro s
  exact ⟨accessibleN_of_not_guest, accessibleN_of_guest, accessibleN_le s, fun _ hi =>
    ⟨getLsbD_visibleMask s hi, getLsbD_implMask s.cfg hi, getLsbD_filterMask s.cfg hi, getLsbD_typeMask s.cfg hi⟩⟩

/-! ### The filter -/

/-- With EL3, NSU lets Non-secure EL0 count where it equals U. -/
theorem filterPass_nonSecureEl0 {c : Config} (f : W32) (h : c.haveEL3 = true) :
    filterPass c f .nonSecureEl0 = true ↔ f.getLsbD 28 = f.getLsbD 30 := by
  simp [filterPass, h]

/-- With EL3, NSK lets Non-secure EL1 count where it equals P. -/
theorem filterPass_nonSecureEl1 {c : Config} (f : W32) (h : c.haveEL3 = true) :
    filterPass c f .nonSecureEl1 = true ↔ f.getLsbD 29 = f.getLsbD 31 := by
  simp [filterPass, h]

/-- Without EL3 the Non-secure levels have the filter of the Secure ones. -/
theorem filterPass_nonSecure_of_noEl3 {c : Config} (f : W32) (h : c.haveEL3 = false) :
    filterPass c f .nonSecureEl0 = filterPass c f .secureEl0 ∧
      filterPass c f .nonSecureEl1 = filterPass c f .secureEl1 := by
  simp [filterPass, h]

/-- Settles O50, by the contexts of the filter. -/
theorem filterTable : Obligations.FilterTable := by
  intro c f
  have el0 : filterPass c f .secureEl0 = true ↔ f.getLsbD 30 = false := Bool.not_eq_true' _ |>.to_iff
  have el1 : filterPass c f .secureEl1 = true ↔ f.getLsbD 31 = false := Bool.not_eq_true' _ |>.to_iff
  refine ⟨el0, el1, filterPass_nonSecureEl0 f, filterPass_nonSecureEl1 f, fun h => ?_, fun h => ?_, Iff.rfl, beq_iff_eq⟩
  · rw [(filterPass_nonSecure_of_noEl3 f h).1, el0]
  · rw [(filterPass_nonSecure_of_noEl3 f h).2, el1]

/-! ### A counter that is left alone -/

/-- Counter n has in q the value, type, enable, interrupt enable and overflow flag it has in p. -/
structure SameCounter (n : Nat) (p q : Pmu) : Prop where
  value : evcntAt q n = evcntAt p n
  type : evtypeAt q n = evtypeAt p n
  enable : q.cnten.getLsbD n = p.cnten.getLsbD n
  interrupt : q.inten.getLsbD n = p.inten.getLsbD n
  overflow : q.ovs.getLsbD n = p.ovs.getLsbD n

theorem SameCounter.of_eq {n : Nat} {p q : Pmu} (h : q = p) : SameCounter n p q := by
  rw [h]
  exact ⟨rfl, rfl, rfl, rfl, rfl⟩

/-- A write of another counter. -/
theorem SameCounter.setEvcnt {n m : Nat} (v : W32) (p : Pmu) (h : m ≠ n) : SameCounter n p (setEvcnt m v p) where
  value := evcntAt_setEvcnt_other m n v p h.symm
  type := by rw [setEvcnt_eq]; rfl
  enable := by rw [setEvcnt_eq]
  interrupt := by rw [setEvcnt_eq]
  overflow := by rw [setEvcnt_eq]

/-- A write of another counter's type. -/
theorem SameCounter.setEvtype {n m : Nat} (v : W32) (p : Pmu) (h : m ≠ n) : SameCounter n p (setEvtype m v p) where
  value := by rw [setEvtype_eq]; rfl
  type := evtypeAt_setEvtype_other m n v p h.symm
  enable := by rw [setEvtype_eq]
  interrupt := by rw [setEvtype_eq]
  overflow := by rw [setEvtype_eq]

/-- A write of PMCR clears the counters below the limit alone. -/
theorem SameCounter.of_pmcrWritten {c : Config} {limit n : Nat} {v : W32} {p q : Pmu} (h : PmcrWritten c limit v p q)
    (hl : limit ≤ n) : SameCounter n p q := by
  obtain ⟨frame, values⟩ := h
  exact
    { value := (values n).trans (if_neg fun hc => Nat.not_lt.mpr hl hc.2)
      type := by rw [frame]; rfl
      enable := by rw [frame]
      interrupt := by rw [frame]
      overflow := by rw [frame] }

/-- A counter that is not hit is not incremented and does not overflow. -/
theorem SameCounter.of_counted {hit : Nat → Prop} {k n : Nat} {p q : Pmu} (h : Counted hit k p q) (hn : n < 31)
    (hm : ¬ hit n) : SameCounter n p q := by
  obtain ⟨frame, -, values, flags⟩ := h
  exact
    { value := values n hm
      type := by rw [frame]; rfl
      enable := by rw [frame]
      interrupt := by rw [frame]
      overflow := Bool.eq_iff_iff.mpr ((flags n (Nat.lt_succ_of_lt hn)).trans (or_iff_left fun hc => hm hc.1)) }

/-! ### Writes of the PMU registers leave the hidden counters -/

/-- A System register access from s does not have access to counter n (11_pmu R95). -/
structure HiddenCounter (s : State) (n : Nat) : Prop where
  inaccessible : accessibleN s ≤ n
  inRange : n < 31

section
variable {s : State} {n : Nat}

/-- The bit of a hidden counter is clear in the mask of the view. -/
theorem HiddenCounter.visibleMask (h : HiddenCounter s n) : (visibleMask s).getLsbD n = false := by
  obtain ⟨hle, hlt⟩ := h
  refine Bool.eq_false_iff.mpr fun hb => ?_
  rcases (getLsbD_visibleMask s (by omega)).mp hb with h31 | hacc <;> omega

/-- Setting bits within the mask of the view leaves the bit of a hidden counter. -/
theorem HiddenCounter.setBits (h : HiddenCounter s n) (old v : W32) :
    (old ||| (v &&& Machine.visibleMask s)).getLsbD n = old.getLsbD n := by
  rw [BitVec.getLsbD_or, getLsbD_masked _ _ _ h.visibleMask, Bool.or_false]

/-- Clearing bits within the mask of the view leaves the bit of a hidden counter. -/
theorem HiddenCounter.clearBits (h : HiddenCounter s n) (old v : W32) :
    (old &&& ~~~(v &&& Machine.visibleMask s)).getLsbD n = old.getLsbD n := by
  have hn : n < 32 := Nat.lt_succ_of_lt h.inRange
  rw [BitVec.getLsbD_and, BitVec.getLsbD_not, getLsbD_masked _ _ _ h.visibleMask]
  simp [hn]

theorem HiddenCounter.setCnten (h : HiddenCounter s n) (v : W32) :
    SameCounter n s.pmu (setCnten (v &&& Machine.visibleMask s) s).pmu :=
  ⟨rfl, rfl, h.setBits _ v, rfl, rfl⟩

theorem HiddenCounter.clearCnten (h : HiddenCounter s n) (v : W32) :
    SameCounter n s.pmu (clearCnten (v &&& Machine.visibleMask s) s).pmu :=
  ⟨rfl, rfl, h.clearBits _ v, rfl, rfl⟩

theorem HiddenCounter.setInten (h : HiddenCounter s n) (v : W32) :
    SameCounter n s.pmu (setInten (v &&& Machine.visibleMask s) s).pmu :=
  ⟨rfl, rfl, rfl, h.setBits _ v, rfl⟩

theorem HiddenCounter.clearInten (h : HiddenCounter s n) (v : W32) :
    SameCounter n s.pmu (clearInten (v &&& Machine.visibleMask s) s).pmu :=
  ⟨rfl, rfl, rfl, h.clearBits _ v, rfl⟩

theorem HiddenCounter.setOvs (h : HiddenCounter s n) (v : W32) :
    SameCounter n s.pmu (setOvs (v &&& Machine.visibleMask s) s).pmu :=
  ⟨rfl, rfl, rfl, rfl, h.setBits _ v⟩

theorem HiddenCounter.clearOvs (h : HiddenCounter s n) (v : W32) :
    SameCounter n s.pmu (clearOvs (v &&& Machine.visibleMask s) s).pmu :=
  ⟨rfl, rfl, rfl, rfl, h.clearBits _ v⟩

theorem HiddenCounter.writePmcr (h : HiddenCounter s n) (v : W32) :
    SameCounter n s.pmu (writePmcr v (accessibleN s) s).pmu :=
  .of_pmcrWritten (writePmcr_written s v _ (accessibleN_le_31 s)) h.inaccessible

theorem HiddenCounter.softwareIncrement (h : HiddenCounter s n) (v : W32) :
    SameCounter n s.pmu (softwareIncrement v (accessibleN s) s).pmu :=
  .of_counted (softwareIncrement_counted s v _ (accessibleN_le_31 s)) h.inRange
    fun hit => Nat.not_lt.mpr h.inaccessible hit.1

/-- PMXEVTYPER reaches another counter's type, or PMCCFILTR. -/
theorem SameCounter.writeXtype {m : Nat} (v : W32) (h : m ≠ n) : SameCounter n s.pmu (writeXtype m v s).pmu := by
  unfold Machine.writeXtype
  split
  · exact ⟨rfl, rfl, rfl, rfl, rfl⟩
  · exact .setEvtype _ _ h

theorem SameCounter.writeXtype32 {m : Nat} (v : W32) (h : m ≠ n) : SameCounter n s.pmu (writeXtype32 m v s).pmu := by
  unfold Machine.writeXtype32
  split
  · exact ⟨rfl, rfl, rfl, rfl, rfl⟩
  · exact .setEvtype _ _ h

/-- The counter check lets no access run on a hidden counter, whatever `CU_COUNTER_ACCESS` selects: number 31 is the
filter of the cycle counter. -/
theorem HiddenCounter.reached_ne {u : CounterUse} {m : Nat} (h : HiddenCounter s n) (hr : counterReach s u = .run m)
    (hu : u ≠ .none) : m ≠ n := by
  obtain ⟨hle, hlt⟩ := h
  rcases counterReach_run hr with hnone | hacc | ⟨h31, -⟩
  · exact absurd hnone hu
  · omega
  · omega

/-! ### The access procedures leave the hidden counters -/

/-- The answer of a step, if it is a next state, has counter n as p has it. -/
def OutSameCounter (n : Nat) (p : Pmu) : Out → Prop
  | .next t => SameCounter n p t.pmu
  | .fault _ => True
  | .refused _ => True

/-- An AArch64 access leaves the counter if its body does where the counter check lets it run. -/
theorem outSameCounter_access64 {r : A64Reg} {wr : Bool} {t : BitVec 5} {body : Nat → State → State}
    (hb : ∀ m, counterReach s (counterUse64 r) = .run m → SameCounter n s.pmu (body m s).pmu) :
    OutSameCounter n s.pmu (.next (access64 r wr t body s)) :=
  access64_cases (fun u => SameCounter n s.pmu u.pmu) (fun _ => .of_eq rfl) hb (.of_eq (by simp)) (.of_eq rfl)

/-- An AArch32 access, and one that is refused or fails its condition, leaves the counter if its body does. -/
theorem outSameCounter_access32 {r : A32Reg} {wr ok : Bool} {a : Access32} {x : BitVec 4} {zero : State → State}
    {body : Nat → State → State} (hz : (zero s).pmu = s.pmu)
    (hb : ∀ m, counterReach s (counterUse32 r) = .run m → SameCounter n s.pmu (body m s).pmu) :
    OutSameCounter n s.pmu (conditional32 x ok (access32 r wr a zero body) s) := by
  unfold conditional32
  split
  · split
    · exact access32_cases (fun u => SameCounter n s.pmu u.pmu) (fun _ => .of_eq rfl) hb (.of_eq hz) (.of_eq rfl)
    · trivial
  · exact .of_eq rfl

theorem outSameCounter_mrs {r : A64Reg} {t : BitVec 5} {v : Nat → State → W64} {k : Nat} :
    OutSameCounter n s.pmu (.next (access64 r false t (fun m s => finishMrs t (v m s) k s) s)) :=
  outSameCounter_access64 fun _ _ => .of_eq (by simp [finishMrs])

theorem outSameCounter_mrc {r : A32Reg} {x t : BitVec 4} {v : Nat → State → W32} {k : Nat} :
    OutSameCounter n s.pmu (mrc32 r x t (fun m s => finishMrc t (v m s) k s) s) :=
  outSameCounter_access32 (by simp) fun _ _ => .of_eq (by simp [finishMrc])

theorem outSameCounter_mcr {r : A32Reg} {x t : BitVec 4} {body : Nat → State → State}
    (hb : ∀ m, counterReach s (counterUse32 r) = .run m → SameCounter n s.pmu (body m s).pmu) :
    OutSameCounter n s.pmu (mcr32 r x t body s) :=
  outSameCounter_access32 rfl hb

/-! ### The instructions -/

/-- Every System register instruction leaves a hidden counter: a read leaves the PMU, a write of a mask is cut to the view,
PMCR.P and PMSWINC stop at AccessibleN(), and a counter or type register is reached by its number. -/
theorem HiddenCounter.exec (h : HiddenCounter s n) (i : Instr) (hi : ∀ r q mm, i.form ≠ .ext r q mm) :
    OutSameCounter n s.pmu (exec i s) := by
  unfold Machine.exec
  cases i with
  | mrsPmcr | mrsPmcntenset | mrsPmcntenclr | mrsPmovsclr | mrsPmselr | mrsPmceid0 | mrsPmceid1 | mrsPmccntr
  | mrsPmxevtyper | mrsPmxevcntr | mrsPmuserenr | mrsPmintenset | mrsPmintenclr | mrsPmovsset | mrsPmccfiltr
  | mrsPmevcntrn | mrsPmevtypern => exact outSameCounter_mrs
  | mrcPmcr | mrcPmcntenset | mrcPmcntenclr | mrcPmovsr | mrcPmselr | mrcPmceid0 | mrcPmceid1 | mrcPmccntr
  | mrcPmxevtyper | mrcPmxevcntr | mrcPmuserenr | mrcPmintenset | mrcPmintenclr | mrcPmovsset | mrcPmceid2
  | mrcPmceid3 | mrcPmccfiltr | mrcPmevcntrn | mrcPmevtypern => exact outSameCounter_mrc
  | mrrcPmccntr => exact outSameCounter_access32 (by simp) fun _ _ => .of_eq (by simp)
  | msrPmselr | msrPmccntr | msrPmuserenr | msrPmccfiltr =>
    exact outSameCounter_access64 fun _ _ => ⟨rfl, rfl, rfl, rfl, rfl⟩
  | mcrPmselr | mcrPmccntr | mcrPmuserenr | mcrPmccfiltr =>
    exact outSameCounter_mcr fun _ _ => ⟨rfl, rfl, rfl, rfl, rfl⟩
  | mcrrPmccntr => exact outSameCounter_access32 rfl fun _ _ => ⟨rfl, rfl, rfl, rfl, rfl⟩
  | msrPmcr => exact outSameCounter_access64 fun _ _ => h.writePmcr _
  | mcrPmcr => exact outSameCounter_mcr fun _ _ => h.writePmcr _
  | msrPmswinc => exact outSameCounter_access64 fun _ _ => h.softwareIncrement _
  | mcrPmswinc => exact outSameCounter_mcr fun _ _ => h.softwareIncrement _
  | msrPmcntenset => exact outSameCounter_access64 fun _ _ => h.setCnten _
  | mcrPmcntenset => exact outSameCounter_mcr fun _ _ => h.setCnten _
  | msrPmcntenclr => exact outSameCounter_access64 fun _ _ => h.clearCnten _
  | mcrPmcntenclr => exact outSameCounter_mcr fun _ _ => h.clearCnten _
  | msrPmintenset => exact outSameCounter_access64 fun _ _ => h.setInten _
  | mcrPmintenset => exact outSameCounter_mcr fun _ _ => h.setInten _
  | msrPmintenclr => exact outSameCounter_access64 fun _ _ => h.clearInten _
  | mcrPmintenclr => exact outSameCounter_mcr fun _ _ => h.clearInten _
  | msrPmovsset => exact outSameCounter_access64 fun _ _ => h.setOvs _
  | mcrPmovsset => exact outSameCounter_mcr fun _ _ => h.setOvs _
  | msrPmovsclr => exact outSameCounter_access64 fun _ _ => h.clearOvs _
  | mcrPmovsr => exact outSameCounter_mcr fun _ _ => h.clearOvs _
  | msrPmxevcntr | msrPmevcntrn =>
    exact outSameCounter_access64 fun _ hr => .setEvcnt _ _ (h.reached_ne hr nofun)
  | mcrPmxevcntr | mcrPmevcntrn =>
    exact outSameCounter_mcr fun _ hr => .setEvcnt _ _ (h.reached_ne hr nofun)
  | msrPmevtypern => exact outSameCounter_access64 fun _ hr => .setEvtype _ _ (h.reached_ne hr nofun)
  | mcrPmevtypern => exact outSameCounter_mcr fun _ hr => .setEvtype _ _ (h.reached_ne hr nofun)
  | msrPmxevtyper => exact outSameCounter_access64 fun _ hr => .writeXtype _ (h.reached_ne hr nofun)
  | mcrPmxevtyper => exact outSameCounter_mcr fun _ hr => .writeXtype32 _ (h.reached_ne hr nofun)
  | _ => exact absurd rfl (hi _ _ _)

end

/-- Settles O57, by `HiddenCounter.exec`. -/
theorem hiddenCountersAreIsolated : Obligations.HiddenCountersAreIsolated := by
  intro i s t hi hexec n hle hlt
  have hout : OutSameCounter n s.pmu (exec i s) := HiddenCounter.exec ⟨hle, hlt⟩ i hi
  rw [hexec] at hout
  obtain ⟨value, type, enable, interrupt, overflow⟩ := hout
  exact ⟨value, type, enable, interrupt, overflow⟩

end Sys2Proof.Machine
end

section
/-! PROOFS. The registers around the PMU by MRS and MSR (O55) and by MRC and MCR (O60), and the read of EDPRSR (O56). An
access to a context register either ends in the exception that ctxTrap64 or ctxTrap32 names, or completes. So each view has
a lemma for each exception, one for no exception and one for each way to complete; the values read are said once. -/
namespace Sys2Proof.Machine

open Sys2Proof

/-! ### The traps of 12_context R161, R168 and R180 -/

/-- MDCR_EL3.TDA takes an access of MDCR_EL2 or HDCR from EL2 to EL3 (12_context R168). -/
def TrappedByTda (s : State) : Prop :=
  s.cfg.haveEL3 = true ∧ s.pe.aa32El3 = false ∧ currentEL s = .el2 ∧ s.ctl.mdcr3.getLsbD 9 = true

theorem tdaTraps_iff (s : State) : tdaTraps s = true ↔ TrappedByTda s := by
  simp [tdaTraps, TrappedByTda, and_assoc]

theorem TrappedByTda.atEl2 {s : State} (h : TrappedByTda s) : currentEL s = .el2 := by
  obtain ⟨-, -, hl, -⟩ := h
  exact hl

/-- MDCR_EL2.TDOSA, TDE or HCR_EL2.TGE takes an access of an OS Lock register to EL2 (12_context R161). -/
def TrappedByTdosa (s : State) : Prop :=
  GuestLevel s ∧ (s.ctl.mdcr2.getLsbD 10 = true ∨ s.ctl.mdcr2.getLsbD 8 = true ∨ s.ctl.hcr.getLsbD 27 = true)

theorem tdosaTraps_iff (s : State) : (guestView s && tdosaActs s) = true ↔ TrappedByTdosa s := by
  rw [Bool.and_eq_true, guestView_iff]
  simp [tdosaActs, hcrTge, TrappedByTdosa, or_assoc]

/-- HSTR.T0 takes an AArch32 access with CRn = c0 to EL2 (12_context R180). -/
def TrappedByT0 (s : State) : Prop :=
  GuestLevel s ∧ s.ctl.hstr.getLsbD 0 = true ∧
    ¬ (s.pe.aa32El2 = false ∧ s.ctl.hcr.getLsbD 34 = true ∧ s.ctl.hcr.getLsbD 27 = true)

theorem t0Traps_iff (s : State) : (guestView s && hstrEff 0 s) = true ↔ TrappedByT0 s := by
  have acts : (!(!s.pe.aa32El2 && hcrE2h s && hcrTge s)) = true ↔
      ¬ (s.pe.aa32El2 = false ∧ s.ctl.hcr.getLsbD 34 = true ∧ s.ctl.hcr.getLsbD 27 = true) := by
    rw [Bool.not_eq_true', ← Bool.not_eq_true]
    simp only [hcrE2h, hcrTge, Bool.and_eq_true, Bool.not_eq_true', and_assoc]
  rw [Bool.and_eq_true, guestView_iff, hstrEff, Bool.and_eq_true, acts, TrappedByT0]

theorem not_guestLevel_of_atHyp {s : State} (h : currentEL s = .el2 ∨ currentEL s = .el3) : ¬ GuestLevel s := by
  rintro ⟨-, -, hl⟩
  rcases h with h | h <;> simp [h] at hl

/-! ### Values -/

/-- A field put into a word reads back, whatever the other bits are. -/
theorem extractLsb'_putField {n : Nat} (x mask field : BitVec n) (lo len : Nat)
    (h : mask.extractLsb' lo len = BitVec.allOnes len) :
    ((x &&& ~~~mask) ||| field).extractLsb' lo len = field.extractLsb' lo len := by
  have cleared : (x &&& ~~~mask).extractLsb' lo len = 0#len := by
    ext i hi
    have set : mask.getLsbD (lo + i) = true := by
      simpa [hi] using congrArg (BitVec.getLsbD · i) h
    simp [set]
  rw [BitVec.extractLsb'_or, cleared, BitVec.zero_or]

theorem idAa64dfr0Value_pmuVer : idAa64dfr0Value.extractLsb' 8 4 = 0b0100 :=
  extractLsb'_putField _ _ _ 8 4 (by decide)

theorem idDfr0Value_perfMon : idDfr0Value.extractLsb' 24 4 = 0b0100 :=
  extractLsb'_putField _ _ _ 24 4 (by decide)

/-- A legal HPMN reads as stored. -/
theorem hpmnRead_of_legal {s : State} (h : hpmnLegal s = true) : hpmnRead s = s.ctl.mdcr2.extractLsb' 0 5 := if_pos h

/-- RW reads as stored when a level below EL3 can use AArch32. -/
theorem scrValue_of_lower {s : State}
    (h : canAArch32 s.cfg .el0 = true ∨ canAArch32 s.cfg .el1 = true ∨ canAArch32 s.cfg .el2 = true) :
    scrValue s = s.ctl.scr :=
  if_pos (by simpa [lowerAArch32, or_assoc] using h)

/-- RW reads as one when none can. -/
theorem scrValue_of_only64 {s : State} (h0 : canAArch32 s.cfg .el0 = false) (h1 : canAArch32 s.cfg .el1 = false)
    (h2 : canAArch32 s.cfg .el2 = false) : scrValue s = s.ctl.scr ||| 0x400 :=
  if_neg (by simp [lowerAArch32, h0, h1, h2])

/-- OSLM is 0b10. -/
theorem oslsrValue_eq (s : State) : (oslsrValue s).setWidth 64 = if s.ctl.oslk then 0b1010 else 0b1000 := by
  unfold oslsrValue
  cases s.ctl.oslk <;> decide

theorem currentElValue_eq (s : State) :
    (currentElValue s).setWidth 64 = BitVec.ofNat 64 (4 * (currentEL s).level) := by
  unfold currentElValue
  cases currentEL s <;> decide

/-- A word that holds one bit. -/
theorem setWidth_ofBool_eq_ite (b : Bool) : (BitVec.ofBool b).setWidth 64 = if b then 1 else 0 := by
  cases b <;> decide

/-- Bit 0 is in the low half of a register. -/
theorem getLsbD_setWidth32_zero (v : W64) : (v.setWidth 32).getLsbD 0 = v.getLsbD 0 := by simp

theorem hstrExists_of {c : Config} (h2 : c.haveEL2 = true) (ha : anyAArch32 c = true) : hstrExists c = true := by
  simp [hstrExists, h2, ha]

theorem not_hstrExists_of {c : Config} (h2 : c.haveEL2 = false) : ¬ hstrExists c = true := by
  simp [hstrExists, h2]

/-! ### AArch64: the levels of each register -/

section
variable {r : Ctx64Reg} {wr : Bool} {el : EL} {c : Config}

theorem ctxAllocated64_el0 : ctxAllocated64 c r wr .el0 = false := by
  cases r with
  | oslsrEl1 | oslarEl1 | idAa64dfr0El1 | idDfr0El1 | mpidrEl1 | currentEl => cases wr <;> rfl
  | _ => rfl

theorem ctxAllocated64_el2Register (hr : r = .mdcrEl2 ∨ r = .hstrEl2 ∨ r = .hcrEl2) :
    ctxAllocated64 c r wr el = true ↔ el = .el2 ∨ el = .el3 := by
  rcases hr with rfl | rfl | rfl <;> simp [ctxAllocated64]

/-- SDER32_EL3 exists only where EL1 can use AArch32. -/
theorem ctxAllocated64_el3Register (hr : r = .mdcrEl3 ∨ r = .scrEl3 ∨ r = .sder32El3) :
    ctxAllocated64 c r wr el = true ↔ el = .el3 ∧ (r = .sder32El3 → canAArch32 c .el1 = true) := by
  rcases hr with rfl | rfl | rfl <;> simp [ctxAllocated64]

theorem ctxAllocated64_readOnly
    (hr : r = .oslsrEl1 ∨ r = .idAa64dfr0El1 ∨ r = .idDfr0El1 ∨ r = .mpidrEl1 ∨ r = .currentEl) :
    ctxAllocated64 c r wr el = true ↔ wr = false ∧ el ≠ .el0 := by
  rcases hr with rfl | rfl | rfl | rfl | rfl <;> simp [ctxAllocated64]

/-- OSLSR_EL1 is read-only and OSLAR_EL1 write-only; the others are both. -/
theorem ctxAllocated64_osRegister (hr : osRegister r = true) :
    ctxAllocated64 c r wr el = true ↔
      (r = .oslsrEl1 → wr = false) ∧ (r = .oslarEl1 → wr = true) ∧ el ≠ .el0 := by
  cases r with
  | oslsrEl1 | oslarEl1 | osdlrEl1 | dbgprcrEl1 => simp [ctxAllocated64]
  | _ => cases hr

end

/-! ### AArch64: how an access ends -/

section
variable {r : Ctx64Reg} {wr : Bool} {t : BitVec 5} {s : State}

theorem ctxTakes64_of_trap {x : Exc} (h : ctxTrap64 r wr t s = some x) : CtxTakes (.a64 r wr t) s x := by
  simp only [CtxTakes, ctxAccess, ctxAccess64, h]

theorem ctxReads64_of_noTrap {v : W64} (h : ctxTrap64 r false t s = none) (hv : ctxRead64 s r = v) :
    CtxReads64 r t s v :=
  ⟨finishMrs t v 1 s, by simp [ctxAccess, ctxAccess64, h, hv], finishMrs_done t v 1 s⟩

theorem ctxWrites64_of_noTrap {ctl : Ctl} (h : ctxTrap64 r true t s = none) (hc : controls64 r = false)
    (hv : ctxWrite64 s.cfg r (readX s t) s.ctl = ctl) : CtxWrites (.a64 r true t) s ctl := by
  simp [CtxWrites, ctxAccess, ctxAccess64, h, hv, hc, finishCtx]

theorem controlWritten64_of_noTrap {ctl : Ctl} (h : ctxTrap64 r true t s = none) (hc : controls64 r = true)
    (hv : ctxWrite64 s.cfg r (readX s t) s.ctl = ctl) :
    ∃ s', ctxAccess (.a64 r true t) s = .next s' ∧ ControlWritten s s' ctl :=
  ⟨_, by simp only [ctxAccess, ctxAccess64, h, hv, hc, finishCtx, if_true], controlWritten s ctl⟩

theorem undefined64 (h : ¬ ctxAllocated64 s.cfg r wr (currentEL s) = true) :
    CtxTakes (.a64 r wr t) s (undefinedExc s) :=
  ctxTakes64_of_trap (by simp [ctxTrap64, h])

theorem trappedByTdosa64 (ha : ctxAllocated64 s.cfg r wr (currentEL s) = true) (hr : osRegister r = true)
    (h : TrappedByTdosa s) : CtxTakes (.a64 r wr t) s (.toAArch64 .el2 (syndrome64 r.sel wr t)) := by
  have hact : (osRegister r && guestView s && tdosaActs s) = true := by
    rw [hr, Bool.true_and]; exact (tdosaTraps_iff s).mpr h
  exact ctxTakes64_of_trap (by simp only [ctxTrap64, ha, hact, Bool.not_true, Bool.false_eq_true, if_false, if_true])

theorem trappedByTda64 (h : TrappedByTda s) :
    CtxTakes (.a64 .mdcrEl2 wr t) s (.toAArch64 .el3 (syndrome64 Ctx64Reg.mdcrEl2.sel wr t)) := by
  have ha : ctxAllocated64 s.cfg .mdcrEl2 wr (currentEL s) = true :=
    (ctxAllocated64_el2Register (.inl rfl)).mpr (.inl h.atEl2)
  exact ctxTakes64_of_trap (by simp [ctxTrap64, ha, osRegister, (tdaTraps_iff s).mpr h])

/-- An access that its level has and that neither TDOSA nor TDA takes completes. -/
theorem ctxTrap64_eq_none (ha : ctxAllocated64 s.cfg r wr (currentEL s) = true)
    (hos : osRegister r = true → ¬ TrappedByTdosa s) (htda : r = .mdcrEl2 → ¬ TrappedByTda s) :
    ctxTrap64 r wr t s = none := by
  have hos' : (osRegister r && guestView s && tdosaActs s) = false := by
    rw [Bool.and_assoc, Bool.and_eq_false_imp]
    exact fun h => Bool.eq_false_iff.mpr (mt (tdosaTraps_iff s).mp (hos h))
  have htda' : (r == .mdcrEl2 && tdaTraps s) = false := by
    rw [Bool.and_eq_false_imp, beq_iff_eq]
    exact fun h => Bool.eq_false_iff.mpr (mt (tdaTraps_iff s).mp (htda h))
  simp [ctxTrap64, ha, hos', htda']

/-- At EL2 and EL3 nothing but TDA takes the registers of EL2. -/
theorem ctxTrap64_el2Register (hl : currentEL s = .el2 ∨ currentEL s = .el3)
    (hr : r = .mdcrEl2 ∨ r = .hstrEl2 ∨ r = .hcrEl2) (htda : r = .mdcrEl2 → ¬ TrappedByTda s) :
    ctxTrap64 r wr t s = none :=
  ctxTrap64_eq_none ((ctxAllocated64_el2Register hr).mpr hl)
    (fun _ h => not_guestLevel_of_atHyp hl h.1) htda

theorem ctxTrap64_el3Register (hl : currentEL s = .el3) (hr : r = .mdcrEl3 ∨ r = .scrEl3 ∨ r = .sder32El3)
    (hsder : r = .sder32El3 → canAArch32 s.cfg .el1 = true) : ctxTrap64 r wr t s = none :=
  ctxTrap64_eq_none ((ctxAllocated64_el3Register hr).mpr ⟨hl, hsder⟩)
    (fun _ h => not_guestLevel_of_atHyp (.inr hl) h.1) (by rintro rfl; simp at hr)

/-- Above EL0 nothing but TDOSA takes the OS Lock registers. -/
theorem ctxTrap64_osRegister (hl : currentEL s ≠ .el0) (hr : osRegister r = true) (hls : r = .oslsrEl1 → wr = false)
    (hla : r = .oslarEl1 → wr = true) (h : ¬ TrappedByTdosa s) : ctxTrap64 r wr t s = none :=
  ctxTrap64_eq_none ((ctxAllocated64_osRegister hr).mpr ⟨hls, hla, hl⟩) (fun _ => h) (by rintro rfl; cases hr)

/-- Above EL0 nothing takes a read of the registers that name the PE and its level. -/
theorem ctxTrap64_identification (hl : currentEL s ≠ .el0)
    (hr : r = .idAa64dfr0El1 ∨ r = .idDfr0El1 ∨ r = .mpidrEl1 ∨ r = .currentEl) : ctxTrap64 r false t s = none :=
  ctxTrap64_eq_none ((ctxAllocated64_readOnly (.inr hr)).mpr ⟨rfl, hl⟩)
    (by rcases hr with rfl | rfl | rfl | rfl <;> nofun) (by rintro rfl; simp at hr)

end

/-- Settles O55, by how an access ends in each of its cases. -/
theorem contextRegistersInAArch64 : Obligations.ContextRegistersInAArch64 := by
  intro s t v w merged reads writes undefined traps atHyp tda tdosa
  refine ⟨?atEl0, ?el2Register, ?el3Register, ?readOnly, ?writeOnly, ?tda, ?atHyp, ?withoutEl2, ?atEl3, ?tdosa, ?osLock,
    ?constants⟩
  case atEl0 => exact fun r wr hl => undefined64 (by simp [hl, ctxAllocated64_el0])
  case el2Register => exact fun r wr hr hl => undefined64 (by simp [hl, ctxAllocated64_el2Register hr])
  case el3Register => exact fun r wr hr hl => undefined64 (by simp [hl, ctxAllocated64_el3Register hr])
  case readOnly => exact fun r hr => undefined64 (by simp [ctxAllocated64_readOnly hr])
  case writeOnly => exact undefined64 (by simp [ctxAllocated64_osRegister (r := .oslarEl1) rfl])
  case tda => exact fun wr h => trappedByTda64 h
  case atHyp =>
    intro hl h2
    have mdcr (h : ¬ tda) (wr : Bool) : ctxTrap64 .mdcrEl2 wr t s = none :=
      ctxTrap64_el2Register hl (by simp) fun _ => h
    have hcr (wr : Bool) : ctxTrap64 .hcrEl2 wr t s = none := ctxTrap64_el2Register hl (by simp) nofun
    have hstr (wr : Bool) : ctxTrap64 .hstrEl2 wr t s = none := ctxTrap64_el2Register hl (by simp) nofun
    exact ⟨fun h => ⟨ctxWrites64_of_noTrap (mdcr h true) rfl (if_pos h2),
        hpmnRead s, hpmnRead_of_legal, ctxReads64_of_noTrap (mdcr h false) (if_pos h2)⟩,
      ctxReads64_of_noTrap (hcr false) (if_pos h2), controlWritten64_of_noTrap (hcr true) rfl (if_pos h2),
      fun ha => ⟨ctxReads64_of_noTrap (hstr false) (if_pos (hstrExists_of h2 ha)),
        ctxWrites64_of_noTrap (hstr true) rfl (if_pos (hstrExists_of h2 ha))⟩⟩
  case withoutEl2 =>
    intro hl h2
    have run {r : Ctx64Reg} (hr : r = .mdcrEl2 ∨ r = .hstrEl2 ∨ r = .hcrEl2) (wr : Bool) :
        ctxTrap64 r wr t s = none :=
      ctxTrap64_el2Register (.inr hl) hr fun _ h => by simp [TrappedByTda, hl] at h
    have noEl2 : ¬ s.cfg.haveEL2 = true := by simp [h2]
    have noHstr : ¬ hstrExists s.cfg = true := not_hstrExists_of h2
    exact ⟨ctxReads64_of_noTrap (run (by simp) false) (if_neg noEl2),
      ctxReads64_of_noTrap (run (by simp) false) (if_neg noEl2),
      ctxReads64_of_noTrap (run (by simp) false) (if_neg noHstr),
      ctxWrites64_of_noTrap (run (by simp) true) rfl (if_neg noEl2),
      ctxWrites64_of_noTrap (run (by simp) true) rfl (if_neg noHstr)⟩
  case atEl3 =>
    intro hl
    have mdcr (wr : Bool) : ctxTrap64 .mdcrEl3 wr t s = none := ctxTrap64_el3Register hl (by simp) nofun
    have scr (wr : Bool) : ctxTrap64 .scrEl3 wr t s = none := ctxTrap64_el3Register hl (by simp) nofun
    have sder (h1 : canAArch32 s.cfg .el1 = true) (wr : Bool) : ctxTrap64 .sder32El3 wr t s = none :=
      ctxTrap64_el3Register hl (by simp) fun _ => h1
    exact ⟨ctxReads64_of_noTrap (mdcr false) rfl, ctxWrites64_of_noTrap (mdcr true) rfl rfl,
      fun h => ctxReads64_of_noTrap (scr false) (congrArg (BitVec.setWidth 64) (scrValue_of_lower h)),
      fun h0 h1 h2 => ctxReads64_of_noTrap (scr false) (congrArg (BitVec.setWidth 64) (scrValue_of_only64 h0 h1 h2)),
      controlWritten64_of_noTrap (scr true) rfl rfl,
      fun h1 => ⟨ctxReads64_of_noTrap (sder h1 false) rfl, ctxWrites64_of_noTrap (sder h1 true) rfl rfl⟩⟩
  case tdosa =>
    intro hl h
    have trap {r : Ctx64Reg} {wr : Bool} (hr : osRegister r = true) (hls : r = .oslsrEl1 → wr = false)
        (hla : r = .oslarEl1 → wr = true) : traps r wr .el2 :=
      trappedByTdosa64 ((ctxAllocated64_osRegister hr).mpr ⟨hls, hla, by simp [hl]⟩) hr h
    exact ⟨trap rfl (fun _ => rfl) nofun, trap rfl nofun fun _ => rfl,
      fun _ => ⟨trap rfl nofun nofun, trap rfl nofun nofun⟩⟩
  case osLock =>
    intro hl h
    have run {r : Ctx64Reg} {wr : Bool} (hr : osRegister r = true) (hls : r = .oslsrEl1 → wr = false)
        (hla : r = .oslarEl1 → wr = true) : ctxTrap64 r wr t s = none := ctxTrap64_osRegister hl hr hls hla h
    have bit0 : w.getLsbD 0 = v.getLsbD 0 := getLsbD_setWidth32_zero v
    exact ⟨ctxReads64_of_noTrap (run rfl (fun _ => rfl) nofun) (oslsrValue_eq s),
      ctxWrites64_of_noTrap (run rfl nofun fun _ => rfl) rfl (congrArg (fun b => { s.ctl with oslk := b }) bit0),
      ctxReads64_of_noTrap (run rfl nofun nofun) (setWidth_ofBool_eq_ite _),
      ctxWrites64_of_noTrap (run rfl nofun nofun) rfl (congrArg (fun b => { s.ctl with dlk := b }) bit0),
      ctxReads64_of_noTrap (run rfl nofun nofun) (setWidth_ofBool_eq_ite _),
      ctxWrites64_of_noTrap (run rfl nofun nofun) rfl (congrArg (fun b => { s.ctl with corenpdrq := b }) bit0)⟩
  case constants =>
    intro hl
    have run {r : Ctx64Reg} (hr : r = .idAa64dfr0El1 ∨ r = .idDfr0El1 ∨ r = .mpidrEl1 ∨ r = .currentEl) :
        ctxTrap64 r false t s = none := ctxTrap64_identification hl hr
    exact ⟨⟨_, idAa64dfr0Value_pmuVer, ctxReads64_of_noTrap (run (by simp)) rfl⟩,
      ⟨_, idDfr0Value_perfMon, ctxReads64_of_noTrap (run (by simp)) rfl⟩,
      ctxReads64_of_noTrap (run (by simp)) rfl, ctxReads64_of_noTrap (run (by simp)) (currentElValue_eq s)⟩

/-! ### AArch32: where each register is reached -/

section
variable {r : Ctx32Reg} {wr : Bool} {s : State}

theorem ctxAllocated32_hypView (hr : r = .hdcr ∨ r = .hcr) :
    ctxAllocated32 r wr s = true ↔ currentEL s = .el2 ∨ (currentEL s = .el3 ∧ s.ctl.scr.getLsbD 0 = true) := by
  rcases hr with rfl | rfl <;> simp [ctxAllocated32, scrNs]

theorem ctxAllocated32_hstr : ctxAllocated32 .hstr wr s = true ↔ currentEL s = .el2 ∨ currentEL s = .el3 := by
  simp [ctxAllocated32]

theorem ctxAllocated32_el3Register (hr : r = .sdcr ∨ r = .scr) :
    ctxAllocated32 r wr s = true ↔ currentEL s = .el3 := by
  rcases hr with rfl | rfl <;> simp [ctxAllocated32]

theorem ctxAllocated32_sder :
    ctxAllocated32 .sder wr s = true ↔ currentEL s = .el3 ∨ (currentEL s = .el1 ∧ isSecure s = true) := by
  simp [ctxAllocated32, or_comm]

theorem ctxAllocated32_idDfr0 : ctxAllocated32 .idDfr0 wr s = true ↔ wr = false ∧ currentEL s ≠ .el0 := by
  simp [ctxAllocated32]

/-- Non-secure EL1 and EL0 under EL2 reach ID_DFR0 alone. -/
theorem not_guestLevel_of_allocated32 (ha : ctxAllocated32 r wr s = true) (hr : r ≠ .idDfr0) : ¬ GuestLevel s := by
  cases r with
  | idDfr0 => exact absurd rfl hr
  | hdcr => exact not_guestLevel_of_atHyp (((ctxAllocated32_hypView (by simp)).mp ha).imp_right And.left)
  | hcr => exact not_guestLevel_of_atHyp (((ctxAllocated32_hypView (by simp)).mp ha).imp_right And.left)
  | hstr => exact not_guestLevel_of_atHyp (ctxAllocated32_hstr.mp ha)
  | sdcr => exact not_guestLevel_of_atHyp (.inr ((ctxAllocated32_el3Register (by simp)).mp ha))
  | scr => exact not_guestLevel_of_atHyp (.inr ((ctxAllocated32_el3Register (by simp)).mp ha))
  | sder =>
    rcases ctxAllocated32_sder.mp ha with hl | ⟨-, hsecure⟩
    · exact not_guestLevel_of_atHyp (.inr hl)
    · exact fun ⟨_, hnonSecure, _⟩ => absurd (hsecure.symm.trans hnonSecure) nofun

end

/-! ### AArch32: the exception that ends an access -/

/-- Secure EL1 with EL3 using AArch64, from where SDCR is trapped to EL3 (12_context R173). -/
def SdcrTrapLevel (s : State) : Prop :=
  (currentEL s = .el1 ∧ isSecure s = true) ∧ s.cfg.haveEL3 = true ∧ s.pe.aa32El3 = false

section
variable {r : Ctx32Reg} {wr : Bool} {c t : BitVec 4} {s : State}

/-- The first check of ctxTrap32. -/
theorem sdcrTraps_iff :
    (r == .sdcr && currentEL s == .el1 && isSecure s && s.cfg.haveEL3 && !s.pe.aa32El3) = true ↔
      r = .sdcr ∧ SdcrTrapLevel s := by
  simp [SdcrTrapLevel, and_assoc]

theorem ctxTrap32_sdcr (h : SdcrTrapLevel s) :
    ctxTrap32 .sdcr wr c t s = some (.toAArch64 .el3 (esr32 s (.single Ctx32Reg.sdcr.sel wr c t))) :=
  if_pos (sdcrTraps_iff.mpr ⟨rfl, h⟩)

theorem ctxTrap32_undefined (ha : ¬ ctxAllocated32 r wr s = true) (hs : r = .sdcr → ¬ SdcrTrapLevel s) :
    ctxTrap32 r wr c t s = some (undefinedExc s) := by
  have first := mt (sdcrTraps_iff (r := r) (s := s)).mp fun h => hs h.1 h.2
  rw [ctxTrap32, if_neg first, if_pos (by simpa using ha)]

/-- The checks left for an access that its level has: HSTR, then TDA. -/
theorem ctxTrap32_allocated (ha : ctxAllocated32 r wr s = true) :
    ctxTrap32 r wr c t s =
      if guestView s && hstrEff r.sel.crn.toNat s then some (el2TrapExc32 (.single r.sel wr c t) s)
      else if r == .hdcr && tdaTraps s then some (.toAArch64 .el3 (esr32 s (.single r.sel wr c t)))
      else none := by
  have first : ¬ (r = .sdcr ∧ SdcrTrapLevel s) := by
    rintro ⟨rfl, ⟨hl, -⟩, -⟩
    have h3 : currentEL s = .el3 := (ctxAllocated32_el3Register (by simp)).mp ha
    exact absurd (hl.symm.trans h3) nofun
  rw [ctxTrap32, if_neg (mt sdcrTraps_iff.mp first), if_neg (by simp [ha])]

theorem ctxTrap32_hdcr_of_tda (h : TrappedByTda s) :
    ctxTrap32 .hdcr wr c t s = some (.toAArch64 .el3 (esr32 s (.single Ctx32Reg.hdcr.sel wr c t))) := by
  have ha : ctxAllocated32 .hdcr wr s = true := (ctxAllocated32_hypView (by simp)).mpr (.inl h.atEl2)
  have guest : ¬ guestView s = true := mt (guestView_iff s).mp (not_guestLevel_of_allocated32 ha nofun)
  rw [ctxTrap32_allocated ha, if_neg (by simp [guest]), if_pos (by simpa using (tdaTraps_iff s).mpr h)]

/-- CRn of ID_DFR0 is c0, so T0 is the bit of HSTR that traps it. -/
theorem ctxTrap32_idDfr0_of_t0 (hl : currentEL s ≠ .el0) (h : TrappedByT0 s) :
    ctxTrap32 .idDfr0 false c t s = some (el2TrapExc32 (.single Ctx32Reg.idDfr0.sel false c t) s) := by
  rw [ctxTrap32_allocated (ctxAllocated32_idDfr0.mpr ⟨rfl, hl⟩)]
  exact if_pos ((t0Traps_iff s).mpr h)

theorem ctxTrap32_idDfr0_eq_none (hl : currentEL s ≠ .el0) (h : ¬ TrappedByT0 s) :
    ctxTrap32 .idDfr0 false c t s = none := by
  rw [ctxTrap32_allocated (ctxAllocated32_idDfr0.mpr ⟨rfl, hl⟩)]
  exact (if_neg (mt (t0Traps_iff s).mp h)).trans (if_neg (by simp))

/-- An access that its level has and that TDA does not take completes. -/
theorem ctxTrap32_eq_none (ha : ctxAllocated32 r wr s = true) (hr : r ≠ .idDfr0)
    (htda : r = .hdcr → ¬ TrappedByTda s) : ctxTrap32 r wr c t s = none := by
  have guest : ¬ guestView s = true := mt (guestView_iff s).mp (not_guestLevel_of_allocated32 ha hr)
  have tda : ¬ (r == .hdcr && tdaTraps s) = true := by
    rw [Bool.and_eq_true, beq_iff_eq, tdaTraps_iff]
    exact fun h => htda h.1 h.2
  rw [ctxTrap32_allocated ha, if_neg (by simp [guest]), if_neg tda]

/-! ### AArch32: how an access whose condition passes ends -/

theorem ctxTakes32_of_trap {x : Exc} (hc : conditionPasses s c = true) (ht : wfReg32 t = true)
    (h : ctxTrap32 r wr c t s = some x) : CtxTakes (.a32 r wr c t) s x := by
  simp [CtxTakes, ctxAccess, ctxAccess32, conditional32, hc, ht, h]

theorem ctxReads32_of_noTrap {v : W32} (hc : conditionPasses s c = true) (ht : wfReg32 t = true)
    (h : ctxTrap32 r false c t s = none) (hv : ctxRead32 s r = v) : CtxReads32 r c t s v :=
  ⟨finishMrc t v 1 s, by simp [ctxAccess, ctxAccess32, conditional32, hc, ht, h, hv], finishMrc_done t v 1 s ht⟩

theorem ctxWrites32_of_noTrap {ctl : Ctl} (hc : conditionPasses s c = true) (ht : wfReg32 t = true)
    (h : ctxTrap32 r true c t s = none) (hr : controls32 r = false)
    (hv : ctxWrite32 s.cfg r (readR s t) s.ctl = ctl) : CtxWrites (.a32 r true c t) s ctl := by
  simp [CtxWrites, ctxAccess, ctxAccess32, conditional32, hc, ht, h, hv, hr, finishCtx]

theorem controlWritten32_of_noTrap {ctl : Ctl} (hc : conditionPasses s c = true) (ht : wfReg32 t = true)
    (h : ctxTrap32 r true c t s = none) (hr : controls32 r = true)
    (hv : ctxWrite32 s.cfg r (readR s t) s.ctl = ctl) :
    ∃ s', ctxAccess (.a32 r true c t) s = .next s' ∧ ControlWritten s s' ctl :=
  ⟨controlChanged (retire { s with ctl := ctl }),
    by simp [ctxAccess, ctxAccess32, conditional32, hc, ht, h, hv, hr, finishCtx], controlWritten s ctl⟩

end

/-- Settles O60, by how an access ends in each of its cases. -/
theorem contextRegistersInAArch32 : Obligations.ContextRegistersInAArch32 := by
  intro s c t hc ht v merged reads writes undefined syndrome trapsEl3 hypView el3In64 tda secureEl1 sdcrMask t0
  have takes {r : Ctx32Reg} {wr : Bool} {x : Exc} (h : ctxTrap32 r wr c t s = some x) : CtxTakes (.a32 r wr c t) s x :=
    ctxTakes32_of_trap hc ht h
  have unreached {r : Ctx32Reg} {wr : Bool} (ha : ¬ ctxAllocated32 r wr s = true) (hr : r ≠ .sdcr) : undefined r wr :=
    takes (ctxTrap32_undefined ha fun h => absurd h hr)
  have readRuns {r : Ctx32Reg} {x : W32} (h : ctxTrap32 r false c t s = none) (hv : ctxRead32 s r = x) : reads r x :=
    ctxReads32_of_noTrap hc ht h hv
  have writeRuns {r : Ctx32Reg} {ctl : Ctl} (h : ctxTrap32 r true c t s = none) (hr : controls32 r = false)
      (hv : ctxWrite32 s.cfg r v s.ctl = ctl) : writes r ctl := ctxWrites32_of_noTrap hc ht h hr hv
  refine ⟨?hypView, ?hstrBelowEl2, ?belowEl3, ?sder, ?idDfr0AtEl0, ?idDfr0Write, ?sdcrTrap, ?tda, ?t0, ?idDfr0, ?atHyp,
    ?hstr, ?atEl3, ?sderRuns⟩
  case hypView =>
    exact fun wr h => ⟨unreached (mt (ctxAllocated32_hypView (by simp)).mp h) nofun,
      unreached (mt (ctxAllocated32_hypView (by simp)).mp h) nofun⟩
  case hstrBelowEl2 =>
    exact fun wr hl => unreached (by rcases hl with hl | hl <;> simp [ctxAllocated32_hstr, hl]) nofun
  case belowEl3 =>
    intro wr hl
    exact ⟨unreached (mt (ctxAllocated32_el3Register (by simp)).mp hl) nofun,
      fun h => takes (ctxTrap32_undefined (mt (ctxAllocated32_el3Register (by simp)).mp hl) fun _ => h)⟩
  case sder =>
    exact fun wr hl h => unreached (mt ctxAllocated32_sder.mp (not_or.mpr ⟨hl, h⟩)) nofun
  case idDfr0AtEl0 => exact fun hl => unreached (by simp [ctxAllocated32_idDfr0, hl]) nofun
  case idDfr0Write => exact unreached (by simp [ctxAllocated32_idDfr0]) nofun
  case sdcrTrap => exact fun wr hl h3 => takes (ctxTrap32_sdcr ⟨hl, h3⟩)
  case tda => exact fun wr ⟨⟨h3, h64⟩, hl, hbit⟩ => takes (ctxTrap32_hdcr_of_tda ⟨h3, h64, hl, hbit⟩)
  case t0 =>
    intro hl h
    have trap : CtxTakes (.a32 .idDfr0 false c t) s (el2TrapExc32 (syndrome .idDfr0 false) s) :=
      takes (ctxTrap32_idDfr0_of_t0 (by simp [hl]) h)
    exact ⟨fun h2 => by simpa [el2TrapExc32, h2] using trap, fun h2 => by simpa [el2TrapExc32, h2] using trap⟩
  case idDfr0 =>
    exact fun hl h => ⟨idDfr0Value, idDfr0Value_perfMon, readRuns (ctxTrap32_idDfr0_eq_none hl h) rfl⟩
  case atHyp =>
    intro hl h2
    have hdcr (h : ¬ tda) (wr : Bool) : ctxTrap32 .hdcr wr c t s = none :=
      ctxTrap32_eq_none ((ctxAllocated32_hypView (by simp)).mpr hl) nofun
        fun _ ⟨h3, h64, hel2, hbit⟩ => h ⟨⟨h3, h64⟩, hel2, hbit⟩
    have hcr (wr : Bool) : ctxTrap32 .hcr wr c t s = none :=
      ctxTrap32_eq_none ((ctxAllocated32_hypView (by simp)).mpr hl) nofun nofun
    exact ⟨fun h => ⟨writeRuns (hdcr h true) rfl (if_pos h2),
        hpmnRead s, hpmnRead_of_legal, readRuns (hdcr h false) (if_pos h2)⟩,
      readRuns (hcr false) (if_pos h2), controlWritten32_of_noTrap hc ht (hcr true) rfl (if_pos h2)⟩
  case hstr =>
    intro hl h2 ha
    have run (wr : Bool) : ctxTrap32 .hstr wr c t s = none :=
      ctxTrap32_eq_none (ctxAllocated32_hstr.mpr hl) nofun nofun
    exact ⟨readRuns (run false) (if_pos (hstrExists_of h2 ha)), writeRuns (run true) rfl (if_pos (hstrExists_of h2 ha))⟩
  case atEl3 =>
    intro hl
    have sdcr (wr : Bool) : ctxTrap32 .sdcr wr c t s = none :=
      ctxTrap32_eq_none ((ctxAllocated32_el3Register (by simp)).mpr hl) nofun nofun
    have scr (wr : Bool) : ctxTrap32 .scr wr c t s = none :=
      ctxTrap32_eq_none ((ctxAllocated32_el3Register (by simp)).mpr hl) nofun nofun
    exact ⟨readRuns (sdcr false) rfl, writeRuns (sdcr true) rfl rfl,
      fun h1 => readRuns (scr false) (scrValue_of_lower (.inr (.inl h1))),
      controlWritten32_of_noTrap hc ht (scr true) rfl rfl⟩
  case sderRuns =>
    intro hl
    have run (wr : Bool) : ctxTrap32 .sder wr c t s = none :=
      ctxTrap32_eq_none (ctxAllocated32_sder.mpr hl) nofun nofun
    exact ⟨readRuns (run false) rfl, writeRuns (run true) rfl rfl⟩

/-! ### EDPRSR -/

theorem doubleLock_of_unlocked {s : State} (h : Unlocked s) : doubleLock s = false := by
  obtain ⟨-, -, h | h | h⟩ := h <;> simp [doubleLock, h]

theorem edprsrPu_of_unlocked {s : State} (h : Unlocked s) : edprsrPu s = true := by
  simp [edprsrPu, h.1, doubleLock_of_unlocked h]

/-- Bit 0 of EDPRSR is PU. -/
theorem getLsbD_edprsrValue_pu (s : State) : (edprsrValue s).getLsbD 0 = edprsrPu s := by
  rw [edprsrValue, BitVec.getLsbD_append]
  simp

/-- Bit 5 of EDPRSR is OSLK where it is not UNKNOWN: four fields of the word reach down to it. -/
theorem getLsbD_edprsrValue_oslk {s : State} (hp : edprsrPu s = true) (hr : s.env.inReset = false) :
    (edprsrValue s).getLsbD 5 = s.ctl.oslk := by
  unfold edprsrValue
  iterate 4 rw [BitVec.getLsbD_append]
  simp [hp, hr]

/-- Bit 10 of EDPRSR is SPMAD where it is not UNKNOWN: eight fields of the word reach down to it. -/
theorem getLsbD_edprsrValue_spmad {s : State} (hp : edprsrPu s = true) (hr : s.env.inReset = false)
    (ho : s.ctl.oslk = false) : (edprsrValue s).getLsbD 10 = s.ctl.spmad := by
  unfold edprsrValue
  iterate 8 rw [BitVec.getLsbD_append]
  simp [hp, hr, ho]

/-- Only the reader's Software Lock keeps SPMAD when the core is on and not locked. -/
theorem spmadAfterRead_of_unlocked {s : State} (lock : Bool) (h : Unlocked s) :
    spmadAfterRead lock s = if lock then s.ctl.spmad else false := by
  simp [spmadAfterRead, h.1, doubleLock_of_unlocked h]

theorem step_readEdprsr {s : State} {lock : Bool} {rest : List Input} (ha : s.agenda = .readEdprsr lock :: rest)
    (hi : s.pmu.ime = false) : step s = .next (readEdprsr lock { s with agenda := rest }) := by
  simp [step, runStep, nextInput, ha, stuckInIntegration, hi, applyInput]

/-- Settles O56, by the bits of EDPRSR and what its read leaves of SPMAD. -/
theorem edprsrReadClearsSpmad : Obligations.EdprsrReadClearsSpmad := by
  intro s lock rest ha hi hu hr
  let q : State := { s with agenda := rest }
  have hq : Unlocked q := hu
  have pu : edprsrPu q = true := edprsrPu_of_unlocked hq
  have oslk : q.ctl.oslk = false := hq.2.1
  refine ⟨readEdprsr lock q, edprsrValue q, step_readEdprsr ha hi, getLsbD_edprsrValue_spmad pu hr oslk,
    (getLsbD_edprsrValue_pu q).trans pu, (getLsbD_edprsrValue_oslk pu hr).trans oslk, ?_⟩
  rw [← spmadAfterRead_of_unlocked (s := q) lock hq]
  rfl

end Sys2Proof.Machine
end

section
/-! PROOFS. The PC-sample registers through the external view (O30). A read of PMPCSR[31:0] latches four words, or gives the
latch as it stands under the Software Lock; every other access is one to a read-only register. -/
namespace Sys2Proof.Machine

open Sys2Proof

/-! ### Read-only registers -/

theorem locked_of_not_slkOpen {mm : Bool} {s : State} (h : ¬ SlkOpen mm s) : locked mm s = true := by
  simpa [SlkOpen, locked, and_assoc] using h

/-- A write that no gate blocks and that the register ignores (42_external R489). -/
theorem extRuns_ignoredWrite {i : Instr} {g : Gate} {v : W32} {mm : Bool}
    {rd : Bool → State → W32 × State} {s : State}
    (hx : exec i s = extAccess g (.write v) mm rd (fun _ s => s) s) (hv : ViewExists mm s) (hb : blocked g s = none) :
    ExtRuns i s .ok s.pmu := by
  refine ⟨_, hx.trans (extAccess_write hv hb), ?_⟩
  rw [ite_self]
  exact extDone_respond rfl rfl rfl rfl rfl rfl rfl

/-- A read-only register that no gate blocks gives its value and ignores writes (42_external R489). -/
theorem extRuns_readOnly {g : Gate} {mm : Bool} {value : State → W32} {s : State} (i : ExtOp → Bool → Instr)
    (hx : ∀ op, exec (i op mm) s = extReadOnly g op mm value s) (hv : ViewExists mm s) (hb : blocked g s = none) :
    ExtRuns (i .read mm) s (.data (value s)) s.pmu ∧ ∀ v, ExtRuns (i (.write v) mm) s .ok s.pmu := by
  simp only [extReadOnly, extPlain] at hx
  exact ⟨⟨_, (hx .read).trans (extAccess_read hv hb), extDone_respond rfl rfl rfl rfl rfl rfl rfl⟩,
    fun v => extRuns_ignoredWrite (hx (.write v)) hv hb⟩

/-! ### The latch (13_external R250 to R255) -/

/-- The bits that the invariant keeps clear are the reserved field of PMPCSR. -/
theorem extractLsb'_reserved_of_and {v : W64} (h : v &&& 0x1F00000000000000 = 0) : v.extractLsb' 56 5 = 0 := by
  have hm : (0x1F00000000000000 : W64).extractLsb' 56 5 = BitVec.allOnes 5 := by decide
  calc v.extractLsb' 56 5
      = (v &&& 0x1F00000000000000).extractLsb' 56 5 := by rw [BitVec.extractLsb'_and, hm, BitVec.and_allOnes]
    _ = 0 := by rw [h]; decide

section
variable (lo hi cid1 cid2 : W32) (vid : BitVec 16) (s : State)

@[simp] theorem latch_pmu : (latch lo hi cid1 cid2 vid s).pmu = { s.pmu with
    pcsr := hi ++ lo, cid1 := cid1, cid2 := if s.cfg.haveEL2 then cid2 else 0, vid := vid &&& vidMask s.cfg } := rfl

/-- A latch changes the PMU and uses up free values. -/
theorem latch_frame : latch lo hi cid1 cid2 vid s = bump 6 { s with pmu := (latch lo hi cid1 cid2 vid s).pmu } := rfl

end

/-- There is an instruction to sample (13_external R251). -/
def HasSample (s : State) : Prop :=
  s.env.inDebug = false ∧ s.env.pcProhibited = false ∧ s.env.inReset = false ∧ s.env.retired = true

theorem hasSample_iff (s : State) :
    HasSample s ↔ (s.env.inDebug || s.env.pcProhibited || s.env.inReset || !s.env.retired) = false := by
  simp [HasSample, and_assoc]

/-- With an instruction to sample, its address and context are latched. -/
theorem samplePc_of_hasSample {s : State} (h : HasSample s) :
    samplePc s = (s.env.sample.pc.setWidth 32,
      latch (s.env.sample.pc.setWidth 32)
        (BitVec.ofBool s.env.sample.nonSecure ++ elCode s.env.sample.el ++ 0#5 ++ s.env.sample.pc.extractLsb' 32 24)
        (sampledCid1 s) (sampledCid2 s) (sampledVid s) s) := by
  obtain ⟨hd, hp, hr, ht⟩ := h
  simp [samplePc, hd, hp, hr, ht]

/-- With none, free words are latched, but the low word is all ones in Debug state and where sampling is prohibited. -/
theorem samplePc_of_noSample {s : State} (h : ¬ HasSample s) :
    ∃ lo hi cid1 cid2 vid, samplePc s = (lo, latch lo (hi &&& pcsrHiMask) cid1 cid2 vid s) ∧
      (s.env.inDebug = true ∨ s.env.pcProhibited = true → lo = 0xFFFFFFFF) := by
  rw [hasSample_iff, Bool.not_eq_false] at h
  refine ⟨_, _, _, _, _, by rw [samplePc, if_pos h], fun hp => if_pos ?_⟩
  simpa using hp

theorem oldOrNew_cases (pending choice : Bool) (old new : W32) :
    oldOrNew pending choice old new = new ∨ (pending = true ∧ oldOrNew pending choice old new = old) := by
  cases pending <;> cases choice <;> simp [oldOrNew]

theorem sampledCid2_cases {s : State} (ha : s.pe.aa32El2 = false) (hn : s.env.sample.nonSecure = true) :
    sampledCid2 s = s.env.sample.cid2 ∨ (s.env.sample.cid2Pending = true ∧ sampledCid2 s = s.env.sample.cid2Old) := by
  have e : sampledCid2 s = oldOrNew s.env.sample.cid2Pending ((draw s 5).getLsbD 1) s.env.sample.cid2Old
      s.env.sample.cid2 := by simp [sampledCid2, ha, hn]
  rw [e]
  exact oldOrNew_cases _ _ _ _

/-- The VMID of a Non-secure sample outside EL2 that is not of the EL0 of a host (13_external R255). -/
theorem sampledVid_of_guest {s : State} (hn : s.env.sample.nonSecure = true) (he : s.env.sample.el ≠ .el2)
    (h0 : s.env.sample.el = .el0 → s.pe.aa32El2 = false → hcrE2h s = true → hcrTge s = false) :
    sampledVid s = if s.env.sample.vmidWide then s.env.sample.vmid else s.env.sample.vmid &&& 0xFF := by
  refine if_neg ?_
  simpa [hn, he] using h0

/-- A read of PMPCSR[31:0] that samples latches as R251 to R255 say. -/
theorem pcLatched_samplePc (s : State) : PcLatched s (samplePc s).1 (samplePc s).2.pmu := by
  by_cases h : HasSample s
  case pos =>
    rw [samplePc_of_hasSample h]
    obtain ⟨hd, hp, -, -⟩ := h
    have hres := pcsr_reserved _ (s.env.sample.pc.setWidth 32)
      (sampleWord_reserved (.ofBool s.env.sample.nonSecure) (elCode s.env.sample.el) (s.env.sample.pc.extractLsb' 32 24))
    refine ⟨rfl, BitVec.setWidth_append_eq_right, extractLsb'_reserved_of_and hres, by simp [hd, hp], fun _ _ _ _ =>
      ⟨rfl, BitVec.extractLsb'_append_eq_left, oldOrNew_cases _ _ _ _, ?contextId2, ?vmid⟩, ?withoutEl2⟩
    case contextId2 =>
      intro h2 ha hn
      simpa [h2] using sampledCid2_cases ha hn
    case vmid =>
      intro h2 hn he h0
      simp [sampledVid_of_guest hn he h0, vidMask, h2]
    case withoutEl2 =>
      intro h2
      simp [vidMask, h2]
  case neg =>
    obtain ⟨lo, hi, cid1, cid2, vid, e, hlo⟩ := samplePc_of_noSample h
    rw [e]
    have hhi : hi &&& pcsrHiMask &&& 0x1F000000 = 0 := by rw [BitVec.and_assoc]; simp [pcsrHiMask]
    refine ⟨rfl, BitVec.setWidth_append_eq_right, extractLsb'_reserved_of_and (pcsr_reserved _ _ hhi), hlo,
      fun hd hp hr ht => absurd ⟨hd, hp, hr, ht⟩ h, fun h2 => ?_⟩
    simp [vidMask, h2]

/-- A read of PMPCSR[31:0] changes the PMU and uses up free values, whether it samples or not. -/
theorem readPcsrLo_frame (lock : Bool) (s : State) :
    ∃ k, (readPcsrLo lock s).2 = bump k { s with pmu := (readPcsrLo lock s).2.pmu } := by
  unfold readPcsrLo
  split
  · exact ⟨0, rfl⟩
  · unfold samplePc
    dsimp only
    split <;> exact ⟨6, latch_frame _ _ _ _ _ s⟩

/-- The answer of a read of PMPCSR[31:0] is the low word of the latch it leaves. -/
theorem readPcsrLo_fst (lock : Bool) (s : State) :
    (readPcsrLo lock s).1 = (readPcsrLo lock s).2.pmu.pcsr.setWidth 32 := by
  unfold readPcsrLo
  split
  · rfl
  · obtain ⟨-, hlo, -⟩ := pcLatched_samplePc s
    exact hlo.symm

theorem extDone_readPcsrLo (lock : Bool) (r : Response) (s : State) :
    ExtDone s (respond r (readPcsrLo lock s).2) r (readPcsrLo lock s).2.pmu := by
  obtain ⟨k, e⟩ := readPcsrLo_frame lock s
  rw [e]
  exact extDone_respond rfl rfl rfl rfl rfl rfl rfl

/-- PMVIDSR holds the VMID under sixteen zeros. -/
theorem pmvidsr_eq (s : State) : pmvidsr s = 0#16 ++ s.pmu.vid :=
  BitVec.setWidth_eq_append (by decide)

/-! ### The accesses to PMPCSR[31:0] (42_external R511) -/

section
variable {mm : Bool} {s : State}

theorem extRuns_pcsrLo_read (alt : Bool) (hc : s.cfg.pcSample = true) (hv : ViewExists mm s) (hu : Unlocked s) :
    ExtRuns (.extPmpcsrLo alt .read mm) s (.data (readPcsrLo (locked mm s) s).1) (readPcsrLo (locked mm s) s).2.pmu :=
  ⟨_, (if_pos hc).trans (extAccess_read hv (blocked_unlocked hu).2), extDone_readPcsrLo _ _ s⟩

theorem extRuns_pcsrLo_write (alt : Bool) (v : W32) (hc : s.cfg.pcSample = true) (hv : ViewExists mm s)
    (hu : Unlocked s) : ExtRuns (.extPmpcsrLo alt (.write v) mm) s .ok s.pmu :=
  extRuns_ignoredWrite (if_pos hc) hv (blocked_unlocked hu).2

theorem append_halves (v : W64) : v.extractLsb' 32 32 ++ v.setWidth 32 = v := by
  rw [BitVec.setWidth_eq_extractLsb' (by decide), BitVec.extractLsb'_append_extractLsb'_eq_extractLsb' (by decide)]
  exact BitVec.extractLsb'_eq_self

/-- The 64-bit read gives the low word's answer with the upper word of the latch on top: the latch (13_external R252). -/
theorem extRuns_pcsrLo_read64 (alt : Bool) (hc : s.cfg.pcSample = true) (h64 : s.cfg.pmpcsr64 = true)
    (hv : ViewExists mm s) (hu : Unlocked s) :
    ExtRuns (.extPmpcsrLo alt .read64 mm) s (.data64 (readPcsrLo (locked mm s) s).2.pmu.pcsr)
      (readPcsrLo (locked mm s) s).2.pmu := by
  have hcond : (s.cfg.pcSample && s.cfg.pmpcsr64) = true := by rw [hc, h64]; rfl
  refine ⟨_, (if_pos hcond).trans ?_, extDone_readPcsrLo _ _ s⟩
  rw [extAccess_read hv (blocked_unlocked hu).2]
  show (.next (respond (.data64 (_ ++ (readPcsrLo (locked mm s) s).1)) _) : Out) = _
  rw [readPcsrLo_fst, respond_pmu, append_halves]
  rfl

end

/-- Settles O30, by the lock: an open one makes the read of PMPCSR[31:0] a sample, a closed one the latch as it stands. -/
theorem externalPcSample : Obligations.ExternalPcSample := by
  intro s mm alt hc hv hu
  have hb := (blocked_unlocked hu).2
  have read := extRuns_pcsrLo_read alt hc hv hu
  have read64 := fun h64 => extRuns_pcsrLo_read64 alt hc h64 hv hu
  have hi := extRuns_readOnly (.extPmpcsrHi alt) (fun _ => if_pos hc) hv hb
  have cid1 := extRuns_readOnly (.extPmcid1sr alt) (fun _ => if_pos hc) hv hb
  have vid := extRuns_readOnly .extPmvidsr (fun _ => if_pos hc) hv hb
  have cid2 := extRuns_readOnly .extPmcid2sr (fun _ => if_pos hc) hv hb
  refine ⟨?samples, ?latch, hi.1, cid1.1, ?vidRead, cid2.1,
    fun v => ⟨extRuns_pcsrLo_write alt v hc hv hu, hi.2 v, cid1.2 v, vid.2 v, cid2.2 v⟩⟩
  case samples =>
    intro hs
    rw [locked_open hs] at read read64
    exact ⟨⟨_, _, pcLatched_samplePc s, read⟩, fun h64 => ⟨_, _, pcLatched_samplePc s, read64 h64⟩⟩
  case latch =>
    intro hs
    rw [locked_of_not_slkOpen hs] at read read64
    exact ⟨read, read64⟩
  case vidRead =>
    rw [← pmvidsr_eq]
    exact vid.1

end Sys2Proof.Machine
end

section
/-! PROOFS. The step of a PE instruction and of an external access (O4, O5). The step takes the agenda's head; once the word
is fetched, or the offset in the block is known, it is exec of what that decodes to (20_memory R280, R300). -/
namespace Sys2Proof.Machine

open Sys2Proof

variable {s : State} {i : Instr} {b0 b1 b2 b3 : Byte}

/-! ### The event that comes next -/

theorem nextInput_cons {inp : Input} {rest : List Input} (h : s.agenda = inp :: rest) : nextInput s = (inp, rest) := by
  simp [nextInput, h]

/-- The PE moves with an empty agenda as with its own turn at the head. -/
theorem nextInput_pe {rest : List Input} (h : (s.agenda = [] ∧ rest = []) ∨ s.agenda = .pe :: rest) :
    nextInput s = (.pe, rest) := by
  obtain ⟨hs, rfl⟩ | hs := h
  · simp [nextInput, hs]
  · exact nextInput_cons hs

/-- Out of integration mode no input is stopped. -/
theorem stuckInIntegration_of_ime (inp : Input) (h : s.pmu.ime = false) : stuckInIntegration inp s = false := by
  simp [stuckInIntegration, h]

theorem step_eq_applyInput {inp : Input} {rest : List Input} (hi : s.pmu.ime = false) (h : nextInput s = (inp, rest)) :
    step s = applyInput inp { s with agenda := rest } := by
  simp [step, runStep, h, stuckInIntegration_of_ime inp hi]

/-! ### The PE's instruction -/

theorem fetchBytes_of_memRead {m : List Host.Cell} {a : W64} (h0 : memRead m a.toNat = some b0)
    (h1 : memRead m (a + 1).toNat = some b1) (h2 : memRead m (a + 2).toNat = some b2)
    (h3 : memRead m (a + 3).toNat = some b3) : fetchBytes m a = .ok (b0, b1, b2, b3) := by
  simp only [fetchBytes, h0, h1, h2, h3]

theorem fetchWord_of_fetchBytes (h : fetchBytes s.mem s.pe.pc = .ok (b0, b1, b2, b3)) :
    fetchWord s = .ok (wordOfBytes (currentIsa s) b0 b1 b2 b3) := by
  simp only [fetchWord, h]

/-- Four bytes decode as the word they hold, and none of them is left over. -/
theorem decodeBytes_eq_ok_iff {isa : Isa} :
    decodeBytes isa [b0, b1, b2, b3] = .ok (i, []) ↔ decodeWord isa (wordOfBytes isa b0 b1 b2 b3) = .ok i := by
  simp only [decodeBytes]
  cases decodeWord isa (wordOfBytes isa b0 b1 b2 b3) <;> simp

theorem peStep_of_fetchWord {w : W32} (hp : s.env.powered = true) (hr : s.env.inReset = false)
    (hd : s.env.inDebug = false) (hw : fetchWord s = .ok w) : peStep s = runWord w s := by
  simp [peStep, hp, hr, hd, hw]

theorem runWord_of_decodeWord {w : W32} (h : decodeWord (currentIsa s) w = .ok i) : runWord w s = exec i s := by
  simp only [runWord, h]

/-- Settles O4: the step is the PE's, the fetch gives the word of the four bytes, and the word runs as it decodes. The
agenda is no part of the fetch. -/
theorem stepRunsDecodedInstruction : Obligations.StepRunsDecodedInstruction := by
  intro s rest i b0 b1 b2 b3 hnext hime hp hr hd h0 h1 h2 h3 hdec
  let t : State := { s with agenda := rest }
  have hfetch : fetchWord t = .ok (wordOfBytes (currentIsa t) b0 b1 b2 b3) :=
    fetchWord_of_fetchBytes (fetchBytes_of_memRead h0 h1 h2 h3)
  calc step s
      = peStep t := step_eq_applyInput hime (nextInput_pe hnext)
    _ = runWord (wordOfBytes (currentIsa t) b0 b1 b2 b3) t := peStep_of_fetchWord hp hr hd hfetch
    _ = exec i t := runWord_of_decodeWord (decodeBytes_eq_ok_iff.mp hdec)

/-! ### The external access -/

theorem busStep_of_decodeBus {a : BusAccess} (h : decodeBus a = .ok i) : busStep a s = exec i s := by
  simp only [busStep, h]

/-- Inside the block, a memory-mapped access is the access at its offset from the base (20_memory R280). -/
theorem memMappedStep_of_inBlock {addr : W64} (size : Nat) (data : Option W32)
    (h : (addr - s.cfg.pmuBase).toNat < 4096) :
    memMappedStep addr size data s = busStep ⟨(addr - s.cfg.pmuBase).setWidth 12, size, data, true⟩ s :=
  if_pos h

/-- Settles O5: a bus access is taken from the agenda as it stands, a memory-mapped one at its offset. -/
theorem stepRunsExternalAccess : Obligations.StepRunsExternalAccess := by
  intro s rest i hime
  refine ⟨?bus, ?memMapped⟩
  case bus =>
    intro a hs hdec
    exact (step_eq_applyInput hime (nextInput_cons hs)).trans (busStep_of_decodeBus hdec)
  case memMapped =>
    intro addr size data hs hblock hdec
    let t : State := { s with agenda := rest }
    calc step s
        = memMappedStep addr size data t := step_eq_applyInput hime (nextInput_cons hs)
      _ = busStep ⟨(addr - s.cfg.pmuBase).setWidth 12, size, data, true⟩ t :=
        memMappedStep_of_inBlock size data hblock
      _ = exec i t := busStep_of_decodeBus hdec

end Sys2Proof.Machine
end

section
/-! PROOFS. Decoding and encoding undo each other (O1, O2), and words written out from the tables (O3). An instruction is its
form (`wellFormed_eq_form` and the `…Instr_of_form` lemmas), so both directions are shown once per format: the fields of an
encoded word are the ones it was put together from, and a word of the format is put together from its fields. -/
namespace Sys2Proof

/-! ### An instruction and its form (30_encoding R320) -/

theorem a64Instr_of_form {i : Instr} {r : A64Reg} {wr : Bool} {t : BitVec 5} (h : i.form = .a64 r wr t) :
    a64Instr r wr t = some i := by
  cases i <;> simp only [Instr.form, Form.a64.injEq, reduceCtorEq] at h <;> obtain ⟨rfl, rfl, rfl⟩ := h <;> rfl

theorem a32Instr_of_form {i : Instr} {r : A32Reg} {wr : Bool} {c t : BitVec 4} (h : i.form = .a32 r wr c t) :
    a32Instr r wr c t = some i := by
  cases i <;> simp only [Instr.form, Form.a32.injEq, reduceCtorEq] at h <;> obtain ⟨rfl, rfl, rfl, rfl⟩ := h <;> rfl

theorem eq_of_form_a32Wide {i : Instr} {wr : Bool} {c t t2 : BitVec 4} (h : i.form = .a32Wide wr c t t2) :
    i = if wr then .mcrrPmccntr c t t2 else .mrrcPmccntr c t t2 := by
  cases i <;> simp only [Instr.form, Form.a32Wide.injEq, reduceCtorEq] at h <;>
    obtain ⟨rfl, rfl, rfl, rfl⟩ := h <;> rfl

@[simp] theorem word_request (op : ExtOp) : op.request.word = some op := by cases op <;> rfl

theorem extInstr_of_form {i : Instr} {r : ExtReg} {q : PcsrOp} {mm : Bool} (h : i.form = .ext r q mm) :
    extInstr r q mm = some i := by
  cases i <;> simp only [Instr.form, Form.ext.injEq, reduceCtorEq] at h <;> obtain ⟨rfl, rfl, rfl⟩ := h <;>
    simp only [extInstr, word_request, Option.map_some]

/-- The registers an AArch64 selector picks: every name, the numbered ones below slot 31 (30_encoding R324, R325). -/
def A64Reg.legal : A64Reg → Bool
  | .pmevcntr n => wfCounter n
  | .pmevtyper n => wfCounter n
  | _ => true

/-- The same in AArch32 (30_encoding R330, R335). -/
def A32Reg.legal : A32Reg → Bool
  | .pmevcntr n => wfCounter n
  | .pmevtyper n => wfCounter n
  | _ => true

/-- The registers an offset picks (30_encoding R338; 20_memory R284). -/
def ExtReg.legal : ExtReg → Bool
  | .pmevcntr n => wfCounter n
  | .pmevtyper n => wfCounter n
  | .reserved off => reservedOffset off
  | _ => true

/-- What `WellFormed` asks of the register and the operands. -/
def Form.legal : Form → Bool
  | .a64 r _ _ => r.legal
  | .a32 r _ c t => wfA32 c t && r.legal
  | .a32Wide wr c t t2 => wfA32 c t && wfReg32 t2 && (wr || t != t2)
  | .ext r _ _ => r.legal

theorem wellFormed_eq_form (i : Instr) : WellFormed i = i.form.legal := by
  cases i <;> simp only [WellFormed, Instr.form, Form.legal, A64Reg.legal, A32Reg.legal, ExtReg.legal,
    Bool.and_true, Bool.true_or, Bool.false_or]

/-! ### The look-ups find the register -/

theorem a64RegOf_sel {r : A64Reg} (h : r.legal = true) : a64RegOf r.sel = some r := by
  cases r
  case pmevcntr n => revert n; decide
  case pmevtyper n => revert n; decide
  all_goals rfl

theorem a32RegOf_sel {r : A32Reg} (h : r.legal = true) : a32RegOf r.sel = some r := by
  cases r
  case pmevcntr n => revert n; decide
  case pmevtyper n => revert n; decide
  all_goals rfl

/-- Every offset that belongs to a register is no reserved one (20_memory R284). -/
theorem eq_reserved_of_reservedOffset {r : ExtReg} (h : reservedOffset r.offset = true) : r = .reserved r.offset := by
  cases r
  case reserved off => rfl
  case pmevcntr n => revert n; decide
  case pmevtyper n => revert n; decide
  case pmpcsrLo alt => revert alt; decide
  case pmpcsrHi alt => revert alt; decide
  case pmcid1sr alt => revert alt; decide
  all_goals exact absurd h (by decide)

/-- The register an offset picks has that offset. -/
theorem offset_extRegOf (off : BitVec 12) : (extRegOf off).offset = off := by
  unfold extRegOf
  split
  case h_1 r hf => simpa using List.find?_some hf
  case h_2 =>
    split
    case isTrue h =>
      simp only [Bool.and_eq_true, beq_iff_eq] at h
      obtain ⟨⟨(h8 : _ = 0#4), (h0 : _ = 0#3)⟩, -⟩ := h
      simp (disch := rfl) only [ExtReg.offset, ← h8, ← h0, BitVec.extractLsb'_append_extractLsb'_eq_extractLsb']
      exact BitVec.extractLsb'_eq_self
    case isFalse =>
      split
      case isTrue h =>
        simp only [Bool.and_eq_true, beq_iff_eq] at h
        obtain ⟨⟨(h7 : _ = 8#5), (h0 : _ = 0#2)⟩, -⟩ := h
        simp (disch := rfl) only [ExtReg.offset, ← h7, ← h0, BitVec.extractLsb'_append_extractLsb'_eq_extractLsb']
        exact BitVec.extractLsb'_eq_self
      case isFalse => rfl

theorem extRegOf_offset {r : ExtReg} (h : r.legal = true) : extRegOf r.offset = r := by
  cases r
  case pmevcntr n => revert n; decide
  case pmevtyper n => revert n; decide
  case pmpcsrLo alt => cases alt <;> rfl
  case pmpcsrHi alt => cases alt <;> rfl
  case pmcid1sr alt => cases alt <;> rfl
  case reserved off =>
    have hoff : (extRegOf off).offset = off := offset_extRegOf off
    have hres : reservedOffset (extRegOf off).offset = true := by rw [hoff]; exact h
    exact (eq_reserved_of_reservedOffset hres).trans (congrArg ExtReg.reserved hoff)
  all_goals rfl

/-! ### Words and their fields -/

/-- A bit as a field of width 1. -/
theorem ofBool_getLsbD {n : Nat} (x : BitVec n) (j : Nat) : BitVec.ofBool (x.getLsbD j) = x.extractLsb' j 1 := by
  apply BitVec.eq_of_getLsbD_eq
  intro k hk
  obtain rfl : k = 0 := by omega
  simp

theorem ofBool_beq_one (b : Bool) : (BitVec.ofBool b == 1#1) = b := by cases b <;> rfl

theorem encode_of_form_a64 {i : Instr} {r : A64Reg} {wr : Bool} {t : BitVec 5} (h : i.form = .a64 r wr t) :
    encode i = .word .a64 (encodeA64 r.sel wr t) := by simp only [encode, h]

theorem encode_of_form_a32 {i : Instr} {r : A32Reg} {wr : Bool} {c t : BitVec 4} (h : i.form = .a32 r wr c t) :
    encode i = .word .a32 (encodeA32 r.sel wr c t) := by simp only [encode, h]

theorem encode_of_form_a32Wide {i : Instr} {wr : Bool} {c t t2 : BitVec 4} (h : i.form = .a32Wide wr c t t2) :
    encode i = .word .a32 (encodeA32Wide wr c t t2) := by simp only [encode, h]

theorem encode_of_form_ext {i : Instr} {r : ExtReg} {q : PcsrOp} {mm : Bool} (h : i.form = .ext r q mm) :
    encode i = .bus (encodeBus r.offset q mm) := by simp only [encode, h]

/-! ### MRS and MSR (30_encoding R321) -/

section
variable {k : Sel64} {wr : Bool} {t : BitVec 5}

/-- The selector that `decodeA64` reads from a word. -/
def a64Sel (w : W32) : Sel64 :=
  ⟨1#1 ++ w.extractLsb' 19 1, w.extractLsb' 16 3, w.extractLsb' 12 4, w.extractLsb' 8 4, w.extractLsb' 5 3⟩

/-- A field of the encoded word is that field of the concatenation, whose width is a sum. -/
theorem extractLsb'_encodeA64 (start len : Nat) : (encodeA64 k wr t).extractLsb' start len =
    (0b1101010100#10 ++ BitVec.ofBool (!wr) ++ 1#1 ++ k.op0.extractLsb' 0 1 ++ k.op1 ++ k.crn ++ k.crm ++ k.op2 ++
      t).extractLsb' start len := rfl

/-- The fixed bits, the direction and the register, as `decodeA64` reads them. -/
theorem encodeA64_fields :
    (encodeA64 k wr t).extractLsb' 22 10 = 0b1101010100#10 ∧ (encodeA64 k wr t).getLsbD 20 = true ∧
    (encodeA64 k wr t).getLsbD 21 = (!wr) ∧ (encodeA64 k wr t).extractLsb' 0 5 = t := by
  simp (disch := decide) only [BitVec.getLsbD_eq_extractLsb', extractLsb'_encodeA64, BitVec.extractLsb'_append_eq_of_le,
    Nat.reduceSub, BitVec.extractLsb'_append_eq_right, BitVec.extractLsb'_eq_self, ofBool_beq_one, BEq.rfl, and_self]

/-- The word holds the low bit of op0; the high one is 1. -/
theorem a64Sel_encodeA64 (h : k.op0.extractLsb' 1 1 = 1#1) : a64Sel (encodeA64 k wr t) = k := by
  have hop0 : 1#1 ++ k.op0.extractLsb' 0 1 = k.op0 := by
    rw [← h, BitVec.extractLsb'_append_extractLsb'_eq_extractLsb' (by rfl)]
    exact BitVec.extractLsb'_eq_self
  simp (disch := decide) only [a64Sel, extractLsb'_encodeA64, BitVec.extractLsb'_append_eq_of_le,
    Nat.reduceSub, BitVec.extractLsb'_append_eq_right, hop0]

theorem encodeA64_a64Sel {w : W32} (hf : w.extractLsb' 22 10 = 0b1101010100#10) (h20 : w.getLsbD 20 = true) :
    encodeA64 (a64Sel w) (!w.getLsbD 21) (w.extractLsb' 0 5) = w := by
  have h20' : 1#1 = w.extractLsb' 20 1 := by rw [← ofBool_getLsbD, h20]; rfl
  have hop0 : (a64Sel w).op0.extractLsb' 0 1 = w.extractLsb' 19 1 := BitVec.extractLsb'_append_eq_right
  rw [encodeA64, hop0, ← hf, Bool.not_not, ofBool_getLsbD, h20']
  simp (disch := rfl) only [a64Sel, BitVec.extractLsb'_append_extractLsb'_eq_extractLsb']
  exact BitVec.extractLsb'_eq_self

end

theorem op0_sel (r : A64Reg) : r.sel.op0 = 3 := by cases r <;> rfl

theorem decodeA64_encodeA64 {i : Instr} {r : A64Reg} {wr : Bool} {t : BitVec 5} (hr : r.legal = true)
    (h : i.form = .a64 r wr t) : decodeA64 (encodeA64 r.sel wr t) = .ok i := by
  have hsel : a64RegOf (a64Sel (encodeA64 r.sel wr t)) = some r := by
    rw [a64Sel_encodeA64 (by rw [op0_sel]; rfl), a64RegOf_sel hr]
  unfold a64Sel at hsel
  obtain ⟨hformat, hbit20, hread, hreg⟩ := encodeA64_fields (k := r.sel) (wr := wr) (t := t)
  simp only [decodeA64, hformat, hbit20, hread, hreg, hsel, BEq.rfl, Bool.and_true, if_true, Bool.not_not,
    a64Instr_of_form h]

theorem encode_of_decodeA64 {w : W32} {i : Instr} (h : decodeA64 w = .ok i) : encode i = .word .a64 w := by
  unfold decodeA64 at h
  split at h
  case isFalse => cases h
  case isTrue hw =>
    simp only [Bool.and_eq_true, beq_iff_eq] at hw
    obtain ⟨hf, h20⟩ := hw
    dsimp only at h
    split at h
    case h_2 => split at h <;> cases h
    case h_1 r hr =>
      split at h
      case h_2 => cases h
      case h_1 j hj =>
        cases h
        have hsel : r.sel = a64Sel w := sel_of_a64RegOf hr
        rw [encode_of_form_a64 (form_of_a64Instr hj), hsel, encodeA64_a64Sel hf h20]

/-! ### MRC and MCR (30_encoding R331) -/

section
variable {k : Sel32} {wr : Bool} {c t : BitVec 4}

/-- The selector that `decodeA32` reads from a word. -/
def a32Sel (w : W32) : Sel32 := ⟨w.extractLsb' 21 3, w.extractLsb' 16 4, w.extractLsb' 0 4, w.extractLsb' 5 3⟩

theorem extractLsb'_encodeA32 (start len : Nat) : (encodeA32 k wr c t).extractLsb' start len =
    (c ++ 0b1110#4 ++ k.opc1 ++ BitVec.ofBool (!wr) ++ k.crn ++ t ++ 0b1111#4 ++ k.opc2 ++ 1#1 ++
      k.crm).extractLsb' start len := rfl

/-- The condition, the fixed bits, the direction and the register, as `decodeA32` reads them. -/
theorem encodeA32_fields :
    (encodeA32 k wr c t).extractLsb' 28 4 = c ∧ (encodeA32 k wr c t).extractLsb' 8 4 = 0xF ∧
    (encodeA32 k wr c t).extractLsb' 24 4 = 0xE ∧ (encodeA32 k wr c t).getLsbD 4 = true ∧
    (encodeA32 k wr c t).getLsbD 20 = (!wr) ∧ (encodeA32 k wr c t).extractLsb' 12 4 = t := by
  simp (disch := decide) only [BitVec.getLsbD_eq_extractLsb', extractLsb'_encodeA32, BitVec.extractLsb'_append_eq_of_le,
    Nat.reduceSub, BitVec.extractLsb'_append_eq_right, BitVec.extractLsb'_eq_self, ofBool_beq_one,
    BitVec.ofNat_eq_ofNat, BEq.rfl, and_self]

theorem a32Sel_encodeA32 : a32Sel (encodeA32 k wr c t) = k := by
  simp (disch := decide) only [a32Sel, extractLsb'_encodeA32, BitVec.extractLsb'_append_eq_of_le,
    Nat.reduceSub, BitVec.extractLsb'_append_eq_right]

theorem encodeA32_a32Sel {w : W32} (hp : w.extractLsb' 8 4 = 0xF) (hf : w.extractLsb' 24 4 = 0xE)
    (h4 : w.getLsbD 4 = true) :
    encodeA32 (a32Sel w) (!w.getLsbD 20) (w.extractLsb' 28 4) (w.extractLsb' 12 4) = w := by
  have h4' : 1#1 = w.extractLsb' 4 1 := by rw [← ofBool_getLsbD, h4]; rfl
  rw [encodeA32, show (0b1110#4) = _ from hf.symm, show (0b1111#4) = _ from hp.symm, Bool.not_not, ofBool_getLsbD, h4']
  simp (disch := rfl) only [a32Sel, BitVec.extractLsb'_append_extractLsb'_eq_extractLsb']
  exact BitVec.extractLsb'_eq_self

end

theorem decodeA32_encodeA32 {i : Instr} {r : A32Reg} {wr : Bool} {c t : BitVec 4} (hc : wfCond c = true)
    (hr : r.legal = true) (h : i.form = .a32 r wr c t) : decodeA32 (encodeA32 r.sel wr c t) = .ok i := by
  have hsel : a32RegOf (a32Sel (encodeA32 r.sel wr c t)) = some r := by rw [a32Sel_encodeA32, a32RegOf_sel hr]
  unfold a32Sel at hsel
  obtain ⟨hcond, hcoproc, hformat, hbit4, hread, hreg⟩ := encodeA32_fields (k := r.sel) (wr := wr) (c := c) (t := t)
  simp only [decodeA32, hcond, hcoproc, hformat, hbit4, hread, hreg, hsel, hc, BEq.rfl, bne_self_eq_false, Bool.not_true,
    Bool.or_false, Bool.false_eq_true, Bool.and_true, if_false, if_true, Bool.not_not, a32Instr_of_form h]

/-! ### MRRC and MCRR (30_encoding R332) -/

section
variable {wr : Bool} {c t t2 : BitVec 4}

theorem extractLsb'_encodeA32Wide (start len : Nat) : (encodeA32Wide wr c t t2).extractLsb' start len =
    (c ++ 0b1100010#7 ++ BitVec.ofBool (!wr) ++ t2 ++ t ++ 0b1111#4 ++ 0#4 ++ 9#4).extractLsb' start len := rfl

/-- Bits [27:24] tell this format from the one of MRC and MCR. -/
theorem encodeA32Wide_not_single : ((encodeA32Wide wr c t t2).extractLsb' 24 4 == 0xE) = false := by
  simp (disch := decide) only [extractLsb'_encodeA32Wide, BitVec.extractLsb'_append_eq_of_le,
    BitVec.extractLsb'_append_eq_of_add_le, Nat.reduceSub]
  rfl

/-- The condition, the fixed bits, the direction and the two registers, as `decodeA32` reads them. -/
theorem encodeA32Wide_fields :
    (encodeA32Wide wr c t t2).extractLsb' 28 4 = c ∧ (encodeA32Wide wr c t t2).extractLsb' 8 4 = 0xF ∧
    (encodeA32Wide wr c t t2).extractLsb' 21 7 = 0b1100010#7 ∧ (encodeA32Wide wr c t t2).extractLsb' 4 4 = 0 ∧
    (encodeA32Wide wr c t t2).extractLsb' 0 4 = 9 ∧ (encodeA32Wide wr c t t2).getLsbD 20 = (!wr) ∧
    (encodeA32Wide wr c t t2).extractLsb' 12 4 = t ∧ (encodeA32Wide wr c t t2).extractLsb' 16 4 = t2 := by
  simp (disch := decide) only [BitVec.getLsbD_eq_extractLsb', extractLsb'_encodeA32Wide,
    BitVec.extractLsb'_append_eq_of_le, Nat.reduceSub, BitVec.extractLsb'_append_eq_right, BitVec.extractLsb'_eq_self,
    ofBool_beq_one, BitVec.ofNat_eq_ofNat, and_self]

theorem encodeA32Wide_of_fields {w : W32} (hp : w.extractLsb' 8 4 = 0xF) (hf : w.extractLsb' 21 7 = 0b1100010#7)
    (h4 : w.extractLsb' 4 4 = 0) (h0 : w.extractLsb' 0 4 = 9) :
    encodeA32Wide (!w.getLsbD 20) (w.extractLsb' 28 4) (w.extractLsb' 12 4) (w.extractLsb' 16 4) = w := by
  rw [encodeA32Wide, ← hf, show (0b1111#4) = _ from hp.symm, show (0#4) = _ from h4.symm,
    show (9#4) = _ from h0.symm, Bool.not_not, ofBool_getLsbD]
  simp (disch := rfl) only [BitVec.extractLsb'_append_extractLsb'_eq_extractLsb']
  exact BitVec.extractLsb'_eq_self

theorem decodeA32_encodeA32Wide {i : Instr} (hc : wfCond c = true) (h : i.form = .a32Wide wr c t t2) :
    decodeA32 (encodeA32Wide wr c t t2) = .ok i := by
  obtain ⟨hcond, hcoproc, hformat, hopc1, hcrm, hread, hreg, hreg2⟩ :=
    encodeA32Wide_fields (wr := wr) (c := c) (t := t) (t2 := t2)
  simp only [decodeA32, hcond, hcoproc, encodeA32Wide_not_single, hformat, hopc1, hcrm, hread, hreg, hreg2, hc, BEq.rfl,
    bne_self_eq_false, Bool.not_true, Bool.or_false, Bool.false_and, Bool.and_true, Bool.false_eq_true, if_false, if_true,
    Bool.not_not, eq_of_form_a32Wide h]
  cases wr <;> rfl

end

theorem encode_of_decodeA32 {w : W32} {i : Instr} (h : decodeA32 w = .ok i) : encode i = .word .a32 w := by
  unfold decodeA32 at h
  dsimp only at h
  split at h
  case isTrue => cases h
  case isFalse hw =>
    simp only [Bool.or_eq_true, Bool.not_eq_true', bne_iff_ne, not_or, ne_eq, not_not] at hw
    obtain ⟨-, hp⟩ := hw
    split at h
    case isTrue hs =>
      simp only [Bool.and_eq_true, beq_iff_eq] at hs
      obtain ⟨hf, h4⟩ := hs
      split at h
      case h_2 => split at h <;> cases h
      case h_1 r hr =>
        split at h
        case h_2 => cases h
        case h_1 j hj =>
          cases h
          have hsel : r.sel = a32Sel w := sel_of_a32RegOf hr
          rw [encode_of_form_a32 (form_of_a32Instr hj), hsel, encodeA32_a32Sel hp hf h4]
    case isFalse =>
      split at h
      case isFalse => cases h
      case isTrue hf =>
        split at h
        case isFalse => cases h
        case isTrue hm =>
          simp only [Bool.and_eq_true, beq_iff_eq] at hf hm
          obtain ⟨h4, h0⟩ := hm
          have hform : i.form =
              .a32Wide (!w.getLsbD 20) (w.extractLsb' 28 4) (w.extractLsb' 12 4) (w.extractLsb' 16 4) := by
            split at h <;> rename_i hwr <;> cases h <;> simp only [Instr.form, hwr]
          rw [encode_of_form_a32Wide hform, encodeA32Wide_of_fields hp hf h4 h0]

/-! ### External accesses (30_encoding R338; 20_memory R285, R291) -/

theorem offset_mod_four {r : ExtReg} (h : r.legal = true) : r.offset.toNat % 4 = 0 := by
  cases r
  case pmevcntr n => revert n; decide
  case pmevtyper n => revert n; decide
  case pmpcsrLo alt => cases alt <;> rfl
  case pmpcsrHi alt => cases alt <;> rfl
  case pmcid1sr alt => cases alt <;> rfl
  case reserved off =>
    simp only [ExtReg.legal, reservedOffset, Bool.and_eq_true, beq_iff_eq] at h
    exact h.1
  all_goals rfl

theorem request_ne_read64 (op : ExtOp) : op.request ≠ .read64 := by cases op <;> nofun

/-- Only PMPCSR[31:0] has a 64-bit read (20_memory R291). -/
theorem eq_pmpcsrLo_of_read64 {i : Instr} {r : ExtReg} {mm : Bool} (h : i.form = .ext r .read64 mm) :
    ∃ alt, r = .pmpcsrLo alt := by
  cases i <;> simp only [Instr.form, Form.ext.injEq, request_ne_read64, false_and, and_false, reduceCtorEq] at h
  case extPmpcsrLo alt q m => exact ⟨alt, h.1.symm⟩

theorem encodeBus_aligned {i : Instr} {r : ExtReg} {q : PcsrOp} {mm : Bool} (hr : r.legal = true)
    (h : i.form = .ext r q mm) : r.offset.toNat % (encodeBus r.offset q mm).size = 0 := by
  cases q
  case read => exact offset_mod_four hr
  case write v => exact offset_mod_four hr
  case read64 =>
    obtain ⟨alt, rfl⟩ := eq_pmpcsrLo_of_read64 h
    have h8 : ∀ b, (ExtReg.pmpcsrLo b).offset.toNat % 8 = 0 := by decide
    exact h8 alt

theorem decodeBus_encodeBus {i : Instr} {r : ExtReg} {q : PcsrOp} {mm : Bool} (hr : r.legal = true)
    (h : i.form = .ext r q mm) : decodeBus (encodeBus r.offset q mm) = .ok i := by
  have ha := encodeBus_aligned hr h
  have hi : extInstr (extRegOf r.offset) q mm = some i := by rw [extRegOf_offset hr, extInstr_of_form h]
  cases q <;> simp only [encodeBus] at ha <;> simp [decodeBus, encodeBus, ha, hi]

theorem encode_of_decodeBus {a : BusAccess} {i : Instr} (h : decodeBus a = .ok i) : encode i = .bus a := by
  unfold decodeBus at h
  split at h
  case isFalse => cases h
  case isTrue hs =>
    split at h
    case isFalse => cases h
    case isTrue =>
      dsimp only at h
      split at h
      case h_2 => cases h
      case h_1 j hj =>
        cases h
        rw [encode_of_form_ext (form_of_extInstr hj), offset_extRegOf]
        obtain ⟨off, size, data, mm⟩ := a
        simp only [Bool.or_eq_true, Bool.and_eq_true, beq_iff_eq] at hs
        obtain rfl | ⟨rfl, hd⟩ := hs
        · cases data <;> rfl
        · obtain rfl : data = none := by simpa using hd
          rfl

/-! ### The statements -/

/-- Settles O1: an instruction is its form, and each format is read back. -/
theorem decodeOfEncode : Obligations.DecodeOfEncode := by
  intro i hwf
  rw [wellFormed_eq_form] at hwf
  cases hform : i.form <;> rw [hform] at hwf
  case a64 r wr t =>
    rw [encode_of_form_a64 hform]
    exact decodeA64_encodeA64 hwf hform
  case a32 r wr c t =>
    simp only [Form.legal, wfA32, Bool.and_eq_true] at hwf
    obtain ⟨⟨hc, -⟩, hr⟩ := hwf
    rw [encode_of_form_a32 hform]
    exact decodeA32_encodeA32 hc hr hform
  case a32Wide wr c t t2 =>
    simp only [Form.legal, wfA32, Bool.and_eq_true] at hwf
    obtain ⟨⟨⟨hc, -⟩, -⟩, -⟩ := hwf
    rw [encode_of_form_a32Wide hform]
    exact decodeA32_encodeA32Wide hc hform
  case ext r q mm =>
    rw [encode_of_form_ext hform]
    exact decodeBus_encodeBus hwf hform

/-- Settles O2: a decoded word, or access, is put together from the fields that were read. -/
theorem encodeOfDecode : Obligations.EncodeOfDecode := by
  refine ⟨?word, fun a i => encode_of_decodeBus⟩
  intro isa w i hisa h
  cases isa
  case a64 => exact encode_of_decodeA64 h
  case a32 => exact encode_of_decodeA32 h
  case t32 => exact absurd rfl hisa

theorem decodeWord_of_encode {isa : Isa} {w : W32} {i : Instr} (hwf : WellFormed i = true)
    (he : encode i = .word isa w) : decodeWord isa w = .ok i := by
  have h := decodeOfEncode i hwf
  rwa [he] at h

theorem decodeBus_of_encode {a : BusAccess} {i : Instr} (hwf : WellFormed i = true) (he : encode i = .bus a) :
    decodeBus a = .ok i := by
  have h := decodeOfEncode i hwf
  rwa [he] at h

/-- Settles O3: each word and access written out is the encoding of its instruction, so O1 reads it back. -/
theorem writtenOutWords : Obligations.WrittenOutWords :=
  ⟨decodeWord_of_encode rfl rfl, decodeWord_of_encode rfl rfl, decodeWord_of_encode rfl rfl,
    decodeWord_of_encode rfl rfl, decodeWord_of_encode rfl rfl, decodeWord_of_encode rfl rfl,
    decodeWord_of_encode rfl rfl, decodeWord_of_encode rfl rfl, decodeBus_of_encode rfl rfl,
    decodeBus_of_encode rfl rfl, decodeBus_of_encode rfl rfl⟩

end Sys2Proof
end

section
/-! PROOFS. A word of the six formats with no register (O6), and the condition and register checks of AArch32 (O24). -/
namespace Sys2Proof.Machine

open Sys2Proof

variable {s : State}

theorem runWord_of_unallocated {w : W32} {e : DecodeError} (h : decodeWord (currentIsa s) w = .error e) :
    runWord w s = runOther w e s := by
  simp only [runWord, h]

/-- The AArch32 arm of `runOther`, which A32 and T32 share. -/
theorem runOther_unallocated32 {isa : Isa} (w : W32) (c : BitVec 4) (h : isa ≠ .a64) :
    runOther w (.unallocated isa c) s =
      .next (if conditionPasses s c then takeException (undefinedExc s) s else retire s) := by
  cases isa
  case a64 => exact absurd rfl h
  case a32 => rfl
  case t32 => rfl

/-- Settles O6: the step runs the word at the pc, which `runOther` makes UNDEFINED. -/
theorem unallocatedWordIsUndefined : Obligations.UnallocatedWordIsUndefined := by
  intro s w isa c hagenda hime hp hr hd hfetch hdec
  have hs : { s with agenda := [] } = s := by rw [← hagenda]
  have hstep : step s = runOther w (.unallocated isa c) s :=
    calc step s
        = peStep { s with agenda := [] } := step_eq_applyInput hime (nextInput_pe (.inl ⟨hagenda, rfl⟩))
      _ = runWord w s := by rw [hs]; exact peStep_of_fetchWord hp hr hd hfetch
      _ = runOther w (.unallocated isa c) s := runWord_of_unallocated hdec
  rw [hstep]
  refine ⟨?a64, ?passes, ?fails⟩
  case a64 => rintro rfl; rfl
  case passes => intro hisa hc; rw [runOther_unallocated32 w c hisa, if_pos hc]
  case fails => intro hisa hc; rw [runOther_unallocated32 w c hisa, hc]; rfl

section
variable {c : BitVec 4} {ok : Bool} {run : State → State}

theorem conditional32_of_failed (h : conditionPasses s c = false) : conditional32 c ok run s = .next (retire s) := by
  simp [conditional32, h]

theorem conditional32_of_refused (h : conditionPasses s c = true) (hok : ok = false) :
    conditional32 c ok run s = .refused .unpredictableRegister := by
  simp [conditional32, h, hok]

end

/-- Settles O24: every AArch32 instruction is `conditional32` with its register check. -/
theorem conditionAndRegisterChecks32 : Obligations.ConditionAndRegisterChecks32 := by
  intro i s
  refine ⟨?single, ?wide⟩
  case single =>
    intro r wr c t hform
    obtain ⟨body, hexec⟩ := exec_a32 s hform
    rw [hexec]
    refine ⟨conditional32_of_failed, fun hc ht => conditional32_of_refused hc ?_⟩
    rw [ht]; rfl
  case wide =>
    intro wr c t t2 hform
    obtain ⟨zero, body, hexec⟩ := exec_a32Wide s hform
    rw [hexec]
    refine ⟨conditional32_of_failed, fun hc ht => conditional32_of_refused hc ?_⟩
    obtain rfl | rfl | ⟨rfl, rfl⟩ := ht <;> simp [wfReg32]

end Sys2Proof.Machine
end

section
/-! PROOFS. MRS and MSR of the PMU registers that the checks let through (O8 to O15). Steps 1 to 4 of the access procedure
let an access through (`LetThrough64`), and step 5 gives the counter that its body runs on (`counterReach`). So each
instruction that names a counter is described once, for whatever counter step 5 gives it; which counter that is, is said
apart. -/
namespace Sys2Proof.Machine

open Sys2Proof

variable {s : State}

/-! ### Steps 1 to 4: the traps (40_aarch64 R360 to R366) -/

/-- Steps 1 to 4 of the AArch64 procedure stop the access by nothing. -/
structure LetThrough64 (r : A64Reg) (wr : Bool) (s : State) : Prop where
  allocated : allocated64 r wr (currentEL s) = true
  permitted : FromEl0 s fun u => ¬ El0Denied u wr (el0Class64 r)
  notTrapped : NotTrapped (r == .pmcr) s

theorem LetThrough64.trapCheck {r : A64Reg} {wr : Bool} (h : LetThrough64 r wr s) (t : BitVec 5) :
    trapCheck64 r wr t s = none :=
  trapCheck64_none h.allocated (fun hl => Bool.eq_false_iff.mpr (mt (el0Traps_iff _ _ _).mp (h.permitted hl)))
    h.notTrapped

/-- EN permits every class of register. -/
theorem FromEl0.ofEn {wr : Bool} {k : El0Class} (h : FromEl0 s fun u => u.en = true) :
    FromEl0 s fun u => ¬ El0Denied u wr k := by
  intro hl
  have hen := h hl
  cases k <;> simp [El0Denied, hen]

/-- ER permits PMSELR in both directions. -/
theorem FromEl0.selector {wr : Bool} (h : FromEl0 s fun u => u.en = true ∨ u.er = true) :
    FromEl0 s fun u => ¬ El0Denied u wr .selector := by
  rintro hl ⟨hen, her⟩
  simpa [hen, her] using h hl

/-- ER permits a read of an event counter. -/
theorem FromEl0.eventCount (h : FromEl0 s fun u => u.en = true ∨ u.er = true) :
    FromEl0 s fun u => ¬ El0Denied u false .eventCount := by
  rintro hl ⟨hen, her⟩
  simpa [hen, her rfl] using h hl

/-- CR permits a read of the cycle counter. -/
theorem FromEl0.cycleCount (h : FromEl0 s fun u => u.en = true ∨ u.cr = true) :
    FromEl0 s fun u => ¬ El0Denied u false .cycleCount := by
  rintro hl ⟨hen, hcr⟩
  simpa [hen, hcr rfl] using h hl

/-- SW permits a software increment. -/
theorem FromEl0.softInc {wr : Bool} (h : FromEl0 s fun u => u.en = true ∨ u.sw = true) :
    FromEl0 s fun u => ¬ El0Denied u wr .softInc := by
  rintro hl ⟨hen, hsw⟩
  simpa [hen, hsw] using h hl

/-- The interrupt enables, and a write of PMUSERENR, need EL1 or above, and PMUSERENR has no say in them. -/
theorem fromEl0_never {wr : Bool} : FromEl0 s fun u => ¬ El0Denied u wr .never := fun _ hdenied => hdenied

/-! ### Step 5: the counter (40_aarch64 R380 to R383) -/

theorem wfCounter_of_lt {n : BitVec 5} (h : n.toNat < accessibleN s) : wfCounter n = true := by
  have hle := accessibleN_le_31 s
  rw [wfCounter, bne_iff_ne]
  rintro rfl
  exact absurd h (Nat.not_lt.mpr hle)

theorem counterReach_direct {n : Nat} (h : n < accessibleN s) : counterReach s (.direct n) = .run n := by
  simp [counterReach, counterOutOfRange, counterIndex, h]

theorem counterReach_selectedCount (h : selected s < accessibleN s) :
    counterReach s .selectedCount = .run (selected s) := by
  simp [counterReach, counterOutOfRange, counterIndex, h]

theorem counterReach_selectedType (h : selected s < accessibleN s) :
    counterReach s .selectedType = .run (selected s) := by
  simp [counterReach, counterOutOfRange, counterIndex, Nat.not_le.mpr h]

/-- SEL = 31 is the filter of the cycle counter, whatever the accessible counters are. -/
theorem counterReach_selectedType_31 (h : s.pmu.sel = 31) : counterReach s .selectedType = .run 31 := by
  simp [counterReach, counterOutOfRange, counterIndex, selected, h]

/-! ### How an access ends -/

section
variable {i : Instr} {r : A64Reg} {wr : Bool} {t : BitVec 5} {n : Nat}

theorem access64_of_run {body : Nat → State → State} (h : LetThrough64 r wr s)
    (hn : counterReach s (counterUse64 r) = .run n) : access64 r wr t body s = body n s := by
  simp only [access64, h.trapCheck, hn]

theorem mrsRuns_of_run {v : Nat → State → W64} {w : W64} {k : Nat} (h : LetThrough64 r false s)
    (hn : counterReach s (counterUse64 r) = .run n)
    (hexec : exec i s = .next (access64 r false t (fun n s => finishMrs t (v n s) k s) s)) (hv : v n s = w) :
    MrsRuns i s t w := by
  subst hv
  exact ⟨_, hexec.trans (by rw [access64_of_run h hn]), finishMrs_done t (v n s) k s⟩

theorem writeRuns_of_run {body : Nat → State → State} {p : Pmu} (h : LetThrough64 r true s)
    (hn : counterReach s (counterUse64 r) = .run n) (hexec : exec i s = .next (access64 r true t body s))
    (hbody : WriteDone s (body n s) p) : WriteRuns i s p :=
  ⟨_, hexec.trans (by rw [access64_of_run h hn]), hbody⟩

/-- A write through PMSELR draws two free values, used or not. -/
theorem writeDone_pmu_bump (p : Pmu) (k : Nat) (s : State) : WriteDone s (retire (bump k { s with pmu := p })) p :=
  retire_done rfl rfl rfl rfl rfl rfl rfl

end

/-! ### The registers that name no counter -/

/-- Settles O8, each instruction by its access and the mask of the view. -/
theorem maskRegisters64 : Obligations.MaskRegisters64 := by
  intro s t hn m v
  refine ⟨fun hen => ?_, fun hl => ?_⟩
  · refine ⟨?_, ?_, ?_, ?_, ?_, ?_, ?_, ?_⟩
    · exact mrsRuns_of_run (r := .pmcntenset) ⟨rfl, hen.ofEn, hn⟩ rfl rfl rfl
    · exact mrsRuns_of_run (r := .pmcntenclr) ⟨rfl, hen.ofEn, hn⟩ rfl rfl rfl
    · exact mrsRuns_of_run (r := .pmovsclr) ⟨rfl, hen.ofEn, hn⟩ rfl rfl rfl
    · exact mrsRuns_of_run (r := .pmovsset) ⟨rfl, hen.ofEn, hn⟩ rfl rfl rfl
    · exact writeRuns_of_run (r := .pmcntenset) ⟨rfl, hen.ofEn, hn⟩ rfl rfl (writeDone_pmu _ s)
    · exact writeRuns_of_run (r := .pmcntenclr) ⟨rfl, hen.ofEn, hn⟩ rfl rfl (writeDone_pmu _ s)
    · exact writeRuns_of_run (r := .pmovsclr) ⟨rfl, hen.ofEn, hn⟩ rfl rfl (writeDone_pmu _ s)
    · exact writeRuns_of_run (r := .pmovsset) ⟨rfl, hen.ofEn, hn⟩ rfl rfl (writeDone_pmu _ s)
  · have aboveEl0 : (currentEL s != .el0) = true := bne_iff_ne.mpr hl
    refine ⟨?_, ?_, ?_, ?_⟩
    · exact mrsRuns_of_run (r := .pmintenset) ⟨aboveEl0, fromEl0_never, hn⟩ rfl rfl rfl
    · exact mrsRuns_of_run (r := .pmintenclr) ⟨aboveEl0, fromEl0_never, hn⟩ rfl rfl rfl
    · exact writeRuns_of_run (r := .pmintenset) ⟨aboveEl0, fromEl0_never, hn⟩ rfl rfl (writeDone_pmu _ s)
    · exact writeRuns_of_run (r := .pmintenclr) ⟨aboveEl0, fromEl0_never, hn⟩ rfl rfl (writeDone_pmu _ s)

/-- Settles O9: the value is `pmcrValue`, whose N field is `nRead`. -/
theorem mrsOfPmcr : Obligations.MrsOfPmcr := by
  intro s t hn hen
  exact ⟨nRead s, pmcrNReads_nRead s, mrsRuns_of_run (r := .pmcr) ⟨rfl, hen.ofEn, hn⟩ rfl rfl rfl⟩

/-- Settles O10, by `writePmcr_written`. -/
theorem msrOfPmcr : Obligations.MsrOfPmcr := by
  intro s t hn hen
  exact ⟨_, writePmcr_written s _ _ (accessibleN_le_31 s),
    writeRuns_of_run (r := .pmcr) ⟨rfl, hen.ofEn, hn⟩ rfl rfl (writeDone_pmu _ s)⟩

/-- Settles O11, each register by its value. -/
theorem mrsOfSingleRegisters : Obligations.MrsOfSingleRegisters := by
  intro s t hn
  refine ⟨fun hsel => ?pmselr, fun hen => ⟨?pmceid0, ?pmceid1, ?pmccfiltr⟩, fun hcr => ?pmccntr, ?pmuserenr⟩
  case pmselr =>
    exact ⟨selValue s, selReads_selValue s,
      mrsRuns_of_run (r := .pmselr) ⟨rfl, hsel.selector, hn⟩ rfl rfl (by simp)⟩
  case pmceid0 =>
    exact ⟨ceid0 s.cfg, ceidWord_eventMask s.cfg 0,
      mrsRuns_of_run (r := .pmceid0) ⟨rfl, hen.ofEn, hn⟩ rfl rfl rfl⟩
  case pmceid1 =>
    exact ⟨ceid1 s.cfg, ceidWord_eventMask s.cfg 0x20,
      mrsRuns_of_run (r := .pmceid1) ⟨rfl, hen.ofEn, hn⟩ rfl rfl rfl⟩
  case pmccfiltr => exact mrsRuns_of_run (r := .pmccfiltr) ⟨rfl, hen.ofEn, hn⟩ rfl rfl rfl
  case pmccntr => exact mrsRuns_of_run (r := .pmccntr) ⟨rfl, hcr.cycleCount, hn⟩ rfl rfl rfl
  case pmuserenr => exact mrsRuns_of_run (r := .pmuserenr) ⟨rfl, fromEl0_never, hn⟩ rfl rfl rfl

/-- Settles O12, each register by its write. -/
theorem msrOfSingleRegisters : Obligations.MsrOfSingleRegisters := by
  intro s t hn
  refine ⟨fun hsel => ?pmselr, fun hen => ⟨?pmccntr, ?pmccfiltr⟩, fun hl => ?pmuserenr⟩
  case pmselr =>
    have low : (operand64 t s).setWidth 5 = (readX s t).setWidth 5 := BitVec.setWidth_setWidth_of_le _ (by omega)
    rw [← low]
    exact writeRuns_of_run (r := .pmselr) ⟨rfl, hsel.selector, hn⟩ rfl rfl (writeDone_pmu _ s)
  case pmccntr => exact writeRuns_of_run (r := .pmccntr) ⟨rfl, hen.ofEn, hn⟩ rfl rfl (writeDone_pmu _ s)
  case pmccfiltr => exact writeRuns_of_run (r := .pmccfiltr) ⟨rfl, hen.ofEn, hn⟩ rfl rfl (writeDone_pmu _ s)
  case pmuserenr =>
    have ha : allocated64 .pmuserenr true (currentEL s) = true := by simpa [allocated64] using hl
    exact writeRuns_of_run (r := .pmuserenr) ⟨ha, fromEl0_never, hn⟩ rfl rfl (writeDone_pmu _ s)

/-- Settles O13, by `softwareIncrement_counted`. -/
theorem msrOfPmswinc : Obligations.MsrOfPmswinc := by
  intro s t hn hsw
  exact ⟨_, softwareIncrement_counted s _ _ (accessibleN_le_31 s),
    writeRuns_of_run (r := .pmswinc) ⟨rfl, hsw.softInc, hn⟩ rfl rfl (writeDone_pmu _ s)⟩

/-! ### The registers that name a counter -/

section
variable {n t : BitVec 5} {m : Nat}

theorem mrsRuns_pmevcntr (h : LetThrough64 (.pmevcntr n) false s) (hm : counterReach s (.direct n.toNat) = .run m) :
    MrsRuns (.mrsPmevcntrn n t) s t ((evcntAt s.pmu m).setWidth 64) :=
  mrsRuns_of_run h hm rfl rfl

theorem mrsRuns_pmevtyper (h : LetThrough64 (.pmevtyper n) false s) (hm : counterReach s (.direct n.toNat) = .run m) :
    ∃ v, TypeReads s m v ∧ MrsRuns (.mrsPmevtypern n t) s t (v.setWidth 64) :=
  ⟨evtypeValue s m, typeReads_evtypeValue s m, mrsRuns_of_run h hm rfl rfl⟩

theorem mrsRuns_pmxevcntr (h : LetThrough64 .pmxevcntr false s) (hm : counterReach s .selectedCount = .run m) :
    MrsRuns (.mrsPmxevcntr t) s t ((evcntAt s.pmu m).setWidth 64) :=
  mrsRuns_of_run h hm rfl rfl

theorem mrsRuns_pmxevtyper (h : LetThrough64 .pmxevtyper false s) (hm : counterReach s .selectedType = .run m)
    (hlt : m < accessibleN s) : ∃ v, TypeReads s m v ∧ MrsRuns (.mrsPmxevtyper t) s t (v.setWidth 64) := by
  have hne : m ≠ 31 := Nat.ne_of_lt (hlt.trans_le (accessibleN_le_31 s))
  refine ⟨evtypeValue s m, typeReads_evtypeValue s m, mrsRuns_of_run h hm rfl ?_⟩
  rw [xtypeValue, if_neg hne]

/-- PMXEVTYPER as PMCCFILTR. -/
theorem mrsRuns_pmxevtyper_31 (h : LetThrough64 .pmxevtyper false s) (hm : counterReach s .selectedType = .run 31) :
    MrsRuns (.mrsPmxevtyper t) s t (s.pmu.ccfilt.setWidth 64) :=
  mrsRuns_of_run h hm rfl rfl

theorem writeRuns_pmevcntr (h : LetThrough64 (.pmevcntr n) true s) (hm : counterReach s (.direct n.toNat) = .run m)
    (hlt : m < accessibleN s) : ∃ p, EvcntSet m (operand64 t s) s.pmu p ∧ WriteRuns (.msrPmevcntrn n t) s p :=
  ⟨_, evcntSet_setEvcnt m _ _ (hlt.trans_le (accessibleN_le_31 s)), writeRuns_of_run h hm rfl (writeDone_pmu _ s)⟩

theorem writeRuns_pmevtyper (h : LetThrough64 (.pmevtyper n) true s) (hm : counterReach s (.direct n.toNat) = .run m)
    (hlt : m < accessibleN s) :
    ∃ p, EvtypeSet m (operand64 t s &&& typeMask s.cfg) s.pmu p ∧ WriteRuns (.msrPmevtypern n t) s p :=
  ⟨_, evtypeSet_setEvtype m _ _ (hlt.trans_le (accessibleN_le_31 s)), writeRuns_of_run h hm rfl (writeDone_pmu _ s)⟩

theorem writeRuns_pmxevcntr (h : LetThrough64 .pmxevcntr true s) (hm : counterReach s .selectedCount = .run m)
    (hlt : m < accessibleN s) : ∃ p, EvcntSet m (operand64 t s) s.pmu p ∧ WriteRuns (.msrPmxevcntr t) s p :=
  ⟨_, evcntSet_setEvcnt m _ _ (hlt.trans_le (accessibleN_le_31 s)),
    writeRuns_of_run h hm rfl (writeDone_pmu_bump _ 2 s)⟩

theorem writeRuns_pmxevtyper (h : LetThrough64 .pmxevtyper true s) (hm : counterReach s .selectedType = .run m)
    (hlt : m < accessibleN s) :
    ∃ p, EvtypeSet m (operand64 t s &&& typeMask s.cfg) s.pmu p ∧ WriteRuns (.msrPmxevtyper t) s p := by
  have hlt31 : m < 31 := hlt.trans_le (accessibleN_le_31 s)
  refine ⟨_, evtypeSet_setEvtype m _ _ hlt31, writeRuns_of_run h hm rfl ?_⟩
  rw [writeXtype, if_neg (Nat.ne_of_lt hlt31)]
  exact writeDone_pmu_bump _ 2 s

/-- PMXEVTYPER as PMCCFILTR. -/
theorem writeRuns_pmxevtyper_31 (h : LetThrough64 .pmxevtyper true s) (hm : counterReach s .selectedType = .run 31) :
    WriteRuns (.msrPmxevtyper t) s { s.pmu with ccfilt := operand64 t s &&& filterMask s.cfg } :=
  writeRuns_of_run h hm rfl (writeDone_pmu_bump _ 2 s)

end

/-- Settles O14, by the reads of the four registers and the counter each is given. -/
theorem mrsOfCounters : Obligations.MrsOfCounters := by
  intro s n t hn
  refine ⟨fun her => ⟨fun hlt => ?pmevcntr, fun hlt => ?pmxevcntr⟩,
    fun hen => ⟨fun hlt => ?pmevtyper, fun hlt => ?pmxevtyper, fun h31 => ?pmccfiltr⟩⟩
  case pmevcntr => exact mrsRuns_pmevcntr ⟨wfCounter_of_lt hlt, her.eventCount, hn⟩ (counterReach_direct hlt)
  case pmxevcntr => exact mrsRuns_pmxevcntr ⟨rfl, her.eventCount, hn⟩ (counterReach_selectedCount hlt)
  case pmevtyper => exact mrsRuns_pmevtyper ⟨wfCounter_of_lt hlt, hen.ofEn, hn⟩ (counterReach_direct hlt)
  case pmxevtyper => exact mrsRuns_pmxevtyper ⟨rfl, hen.ofEn, hn⟩ (counterReach_selectedType hlt) hlt
  case pmccfiltr => exact mrsRuns_pmxevtyper_31 ⟨rfl, hen.ofEn, hn⟩ (counterReach_selectedType_31 h31)

/-- Settles O15, by the writes of the four registers and the counter each is given. -/
theorem msrOfCounters : Obligations.MsrOfCounters := by
  intro s n t hn hen v
  refine ⟨fun hlt => ⟨?pmevcntr, ?pmevtyper⟩, fun hlt => ⟨?pmxevcntr, ?pmxevtyper⟩, fun h31 => ?pmccfiltr⟩
  case pmevcntr => exact writeRuns_pmevcntr ⟨wfCounter_of_lt hlt, hen.ofEn, hn⟩ (counterReach_direct hlt) hlt
  case pmevtyper => exact writeRuns_pmevtyper ⟨wfCounter_of_lt hlt, hen.ofEn, hn⟩ (counterReach_direct hlt) hlt
  case pmxevcntr => exact writeRuns_pmxevcntr ⟨rfl, hen.ofEn, hn⟩ (counterReach_selectedCount hlt) hlt
  case pmxevtyper => exact writeRuns_pmxevtyper ⟨rfl, hen.ofEn, hn⟩ (counterReach_selectedType hlt) hlt
  case pmccfiltr => exact writeRuns_pmxevtyper_31 ⟨rfl, hen.ofEn, hn⟩ (counterReach_selectedType_31 h31)

end Sys2Proof.Machine
end

section
/-! PROOFS. MRS and MSR of a counter that is not accessible (O42): which way step 5 sends the access under each value of
`CU_COUNTER_ACCESS` (`outOfRangeReach`), and how the access ends on each way. -/
namespace Sys2Proof.Machine

open Sys2Proof

variable {s : State}

/-! ### The ways of step 5 (40_aarch64 R380, R381, R383; log 16) -/

section
variable {u : CounterUse}

theorem outOfRangeReach_undefinedOrTrap (hc : s.cfg.cuCounterAccess = .undefinedOrTrap) :
    outOfRangeReach s u = .denied (counterIndex s u) := by
  simp only [outOfRangeReach, hc]

theorem outOfRangeReach_razWi (hc : s.cfg.cuCounterAccess = .razWi) : outOfRangeReach s u = .zero := by
  simp only [outOfRangeReach, hc]

theorem outOfRangeReach_nop (hc : s.cfg.cuCounterAccess = .nop) : outOfRangeReach s u = .skip := by
  simp only [outOfRangeReach, hc]

/-- The members of R381 are offered to the accesses through PMSELR alone. -/
theorem outOfRangeReach_direct {n : Nat}
    (hc : s.cfg.cuCounterAccess = .selUnknown ∨ s.cfg.cuCounterAccess = .sel31) :
    outOfRangeReach s (.direct n) = .denied n := by
  rcases hc with hc | hc <;> simp only [outOfRangeReach, hc, counterIndex]

theorem outOfRangeReach_noCounter (hc : s.cfg.cuCounterAccess = .selUnknown) (h0 : accessibleN s = 0) :
    outOfRangeReach s u = .denied (counterIndex s u) := by
  cases u <;> simp only [outOfRangeReach, hc, h0, counterIndex, if_true]

theorem outOfRangeReach_unknownCounter (hc : s.cfg.cuCounterAccess = .selUnknown) (h0 : 0 < accessibleN s)
    (hu : u = .selectedCount ∨ u = .selectedType) : outOfRangeReach s u = .run (unknownCounter s) := by
  rcases hu with rfl | rfl <;> simp only [outOfRangeReach, hc, if_neg (Nat.ne_of_gt h0)]

theorem outOfRangeReach_count31 (hc : s.cfg.cuCounterAccess = .sel31) :
    outOfRangeReach s .selectedCount = .denied 31 := by
  simp only [outOfRangeReach, hc]

theorem outOfRangeReach_type31 (hc : s.cfg.cuCounterAccess = .sel31) : outOfRangeReach s .selectedType = .run 31 := by
  simp only [outOfRangeReach, hc]

end

theorem unknownCounter_lt (h0 : 0 < accessibleN s) : unknownCounter s < accessibleN s := Nat.mod_lt _ h0

/-! ### An access that names an inaccessible counter -/

section
variable {r : A64Reg} {wr : Bool} {idx : Nat}

/-- The four registers, and how each names its counter. -/
theorem OutOfRange64.cases (h : OutOfRange64 s r idx) :
    (∃ n, n ≠ 31 ∧ idx = n.toNat ∧ (r = .pmevcntr n ∨ r = .pmevtyper n)) ∨
      (r = .pmxevcntr ∧ idx = selected s) ∨ (r = .pmxevtyper ∧ idx = selected s ∧ s.pmu.sel ≠ 31) := by
  obtain ⟨-, h⟩ := h
  cases r with
  | pmevcntr n => exact .inl ⟨n, h.1, h.2, .inl rfl⟩
  | pmevtyper n => exact .inl ⟨n, h.1, h.2, .inr rfl⟩
  | pmxevcntr => exact .inr (.inl ⟨rfl, h⟩)
  | pmxevtyper => exact .inr (.inr ⟨rfl, h⟩)
  | _ => exact h.elim

theorem OutOfRange64.counterIndex (h : OutOfRange64 s r idx) : counterIndex s (counterUse64 r) = idx := by
  obtain ⟨n, -, rfl, rfl | rfl⟩ | ⟨rfl, rfl⟩ | ⟨rfl, rfl, -⟩ := h.cases <;> rfl

theorem OutOfRange64.reach (h : OutOfRange64 s r idx) :
    counterReach s (counterUse64 r) = outOfRangeReach s (counterUse64 r) := by
  have hle : accessibleN s ≤ idx := h.1
  refine if_pos ?_
  obtain ⟨n, -, rfl, rfl | rfl⟩ | ⟨rfl, rfl⟩ | ⟨rfl, rfl, hsel⟩ := h.cases
  · exact decide_eq_true hle
  · exact decide_eq_true hle
  · exact decide_eq_true hle
  · exact Bool.and_eq_true_iff.mpr ⟨decide_eq_true hle, bne_iff_ne.mpr fun h31 => hsel (BitVec.eq_of_toNat_eq h31)⟩

/-- An access that does not go through PMSELR names its counter itself. -/
theorem OutOfRange64.direct (h : OutOfRange64 s r idx) (hr : r ≠ .pmxevcntr ∧ r ≠ .pmxevtyper) :
    counterUse64 r = .direct idx := by
  obtain ⟨n, -, rfl, rfl | rfl⟩ | ⟨rfl, -⟩ | ⟨rfl, -⟩ := h.cases
  · rfl
  · rfl
  · exact absurd rfl hr.1
  · exact absurd rfl hr.2

theorem OutOfRange64.letThrough (h : OutOfRange64 s r idx) (hn : NotTrapped false s)
    (h0 : currentEL s = .el0 → ¬ El0Denied s.pmu.useren wr (el0Class64 r)) : LetThrough64 r wr s := by
  obtain ⟨n, hn31, -, rfl | rfl⟩ | ⟨rfl, -⟩ | ⟨rfl, -⟩ := h.cases
  · exact ⟨bne_iff_ne.mpr hn31, h0, hn⟩
  · exact ⟨bne_iff_ne.mpr hn31, h0, hn⟩
  · exact ⟨rfl, h0, hn⟩
  · exact ⟨rfl, h0, hn⟩

end

/-! ### The ends that do not run the body -/

section
variable {i : Instr} {r : A64Reg} {wr : Bool} {t : BitVec 5} {idx : Nat}

theorem counterTraps_iff : counterTraps s idx = true ↔ accessibleN s ≤ idx ∧ TrapOffered s idx := by
  simp only [counterTraps, TrapOffered, Bool.and_eq_true, Bool.or_eq_true, Bool.not_eq_true', beq_iff_eq,
    decide_eq_true_eq]
  tauto

theorem exec_of_denied (hform : i.form = .a64 r wr t) (h : LetThrough64 r wr s)
    (hr : counterReach s (counterUse64 r) = .denied idx) :
    exec i s = .next (takeException (deniedExc64 r wr t idx s) s) := by
  obtain ⟨body, hexec⟩ := exec_a64 s hform
  simp only [hexec, access64, h.trapCheck, hr]

theorem exec_of_denied_trapOffered (hform : i.form = .a64 r wr t) (h : LetThrough64 r wr s)
    (hr : counterReach s (counterUse64 r) = .denied idx) (hle : accessibleN s ≤ idx) (ho : TrapOffered s idx) :
    exec i s = .next (takeException (.toAArch64 .el2 (syndrome64 r.sel wr t)) s) := by
  rw [exec_of_denied hform h hr, deniedExc64, if_pos (counterTraps_iff.mpr ⟨hle, ho⟩)]

theorem exec_of_denied_undefined (hform : i.form = .a64 r wr t) (h : LetThrough64 r wr s)
    (hr : counterReach s (counterUse64 r) = .denied idx) (ho : ¬ TrapOffered s idx) :
    exec i s = .next (takeException (undefinedExc s) s) := by
  rw [exec_of_denied hform h hr, deniedExc64, if_neg (mt counterTraps_iff.mp fun hc => ho hc.2)]

/-- There is no counter 31 to trap for. -/
theorem not_trapOffered_31 : ¬ TrapOffered s 31 := by
  rintro ⟨-, -, -, hlt⟩
  exact absurd hlt (Nat.not_lt.mpr (Nat.le_of_lt_succ s.cfg.n.isLt))

theorem mrsRuns_of_zero (hform : i.form = .a64 r false t) (h : LetThrough64 r false s)
    (hr : counterReach s (counterUse64 r) = .zero) : MrsRuns i s t 0 := by
  obtain ⟨body, hexec⟩ := exec_a64 s hform
  refine ⟨finishMrs t 0 0 s, ?_, finishMrs_done t 0 0 s⟩
  simp only [hexec, access64, h.trapCheck, hr]
  rfl

theorem writeRuns_of_zero (hform : i.form = .a64 r true t) (h : LetThrough64 r true s)
    (hr : counterReach s (counterUse64 r) = .zero) : WriteRuns i s s.pmu := by
  obtain ⟨body, hexec⟩ := exec_a64 s hform
  refine ⟨retire s, ?_, writeDone_pmu s.pmu s⟩
  simp only [hexec, access64, h.trapCheck, hr, if_true]

theorem exec_of_skip (hform : i.form = .a64 r wr t) (h : LetThrough64 r wr s)
    (hr : counterReach s (counterUse64 r) = .skip) : exec i s = .next (retire s) := by
  obtain ⟨body, hexec⟩ := exec_a64 s hform
  simp only [hexec, access64, h.trapCheck, hr]

end

/-- Settles O42: each value of `CU_COUNTER_ACCESS` sends the access one way of step 5. -/
theorem inaccessibleCounter64 : Obligations.InaccessibleCounter64 := by
  intro i s r wr t idx hform hn h0 hout w denied direct
  have hlet : LetThrough64 r wr s := hout.letThrough hn h0
  have isDenied (h : outOfRangeReach s (counterUse64 r) = .denied idx) : denied :=
    ⟨exec_of_denied_trapOffered hform hlet (hout.reach.trans h) hout.1,
      exec_of_denied_undefined hform hlet (hout.reach.trans h)⟩
  refine ⟨fun hc => isDenied ?spec, fun hc => ?razWi, fun hc => ?nop, fun hc hd => isDenied ?selUnknownDenied,
    fun hc hpos => ⟨?unknownCount, ?unknownType⟩, fun hc hd => isDenied ?sel31Denied, fun hc hr => ?count31,
    fun hc hr => ?type31⟩
  case spec => rw [outOfRangeReach_undefinedOrTrap hc, hout.counterIndex]
  case razWi =>
    have hzero := hout.reach.trans (outOfRangeReach_razWi hc)
    refine ⟨?_, ?_⟩ <;> rintro rfl
    · exact mrsRuns_of_zero hform hlet hzero
    · exact writeRuns_of_zero hform hlet hzero
  case nop => exact exec_of_skip hform hlet (hout.reach.trans (outOfRangeReach_nop hc))
  case selUnknownDenied =>
    rcases hd with hd | hd
    · rw [hout.direct hd, outOfRangeReach_direct (.inl hc)]
    · rw [outOfRangeReach_noCounter hc hd, hout.counterIndex]
  case unknownCount =>
    rintro rfl
    have hrun := hout.reach.trans (outOfRangeReach_unknownCounter hc hpos (.inl rfl))
    refine ⟨unknownCounter s, unknownCounter_lt hpos, ?_, ?_⟩ <;> rintro rfl <;>
      obtain rfl := Option.some.inj (a64Instr_of_form hform)
    · exact mrsRuns_pmxevcntr hlet hrun
    · exact writeRuns_pmxevcntr hlet hrun (unknownCounter_lt hpos)
  case unknownType =>
    rintro rfl
    have hrun := hout.reach.trans (outOfRangeReach_unknownCounter hc hpos (.inr rfl))
    refine ⟨unknownCounter s, unknownCounter_lt hpos, ?_, ?_⟩ <;> rintro rfl <;>
      obtain rfl := Option.some.inj (a64Instr_of_form hform)
    · exact mrsRuns_pmxevtyper hlet hrun (unknownCounter_lt hpos)
    · exact writeRuns_pmxevtyper hlet hrun (unknownCounter_lt hpos)
  case sel31Denied => rw [hout.direct hd, outOfRangeReach_direct (.inr hc)]
  case count31 =>
    subst hr
    exact exec_of_denied_undefined hform hlet (hout.reach.trans (outOfRangeReach_count31 hc)) not_trapOffered_31
  case type31 =>
    subst hr
    have hrun := hout.reach.trans (outOfRangeReach_type31 hc)
    refine ⟨?_, ?_⟩ <;> rintro rfl <;> obtain rfl := Option.some.inj (a64Instr_of_form hform)
    · exact mrsRuns_pmxevtyper_31 hlet hrun
    · exact writeRuns_pmxevtyper_31 hlet hrun

end Sys2Proof.Machine
end

section
/-! PROOFS. Where an access ends that the checks stop: UNDEFINED (O38), PMUSERENR (O39), EL2 (O40), EL3 (O41). Each check
of the two access procedures is a predicate on the state, and each procedure has one lemma per check that stops it, under
the hypothesis that the checks before it do not (40_aarch64 R360; 41_aarch32 R420). -/
namespace Sys2Proof.Machine

open Sys2Proof

variable {s : State}

/-! ### Where UNDEFINED goes (60_exceptions R596 to R598) -/

theorem isSecure_iff : isSecure s = true ↔
    (s.cfg.haveEL3 = true ∧
      (currentEL s = .el3 ∨ (s.ctl.scr.getLsbD 0 = false ∧ (currentEL s = .el0 ∨ currentEL s = .el1)))) ∨
    (s.cfg.haveEL3 = false ∧ s.cfg.secureWhenNoEL3 = true) := by
  cases h : s.cfg.haveEL3 <;> simp [isSecure, secureAt, scrNs, h]

theorem tgeReroutes_iff :
    tgeReroutes s = true ↔ s.cfg.haveEL2 = true ∧ isSecure s = false ∧ s.ctl.hcr.getLsbD 27 = true := by
  simp [tgeReroutes, hcrTge, and_assoc]

theorem undefTarget_aboveEl0 (h : currentEL s ≠ .el0) : undefTarget s = currentEL s := by
  unfold undefTarget
  split
  · contradiction
  · rfl

theorem undefTarget_el0 (h : currentEL s = .el0) : undefTarget s = if tgeReroutes s then .el2 else .el1 := by
  simp [undefTarget, h]

section
variable {el : EL}

theorem undefinedExc_toAArch64 (ht : undefTarget s = el) (hx : usesAArch32 s el = false) :
    undefinedExc s = .toAArch64 el 0x02000000 := by
  simp [undefinedExc, ht, hx, undefSyndrome]

theorem undefinedExc_toUndefined (ht : undefTarget s = el) (hel : el ≠ .el2) (hx : usesAArch32 s el = true) :
    undefinedExc s = .toUndefined := by
  simp [undefinedExc, ht, hx, hel]

theorem undefinedExc_toHyp (ht : undefTarget s = .el2) (hx : usesAArch32 s .el2 = true) :
    undefinedExc s = .toHyp 0x02000000 := by
  simp [undefinedExc, ht, hx, undefSyndrome]

end

/-! ### The checks -/

/-- Step 2 finds the access denied, for registers of class k. -/
theorem el0Check_eq_true {wr : Bool} {k : El0Class} (hl : currentEL s = .el0) (h : El0Denied s.pmu.useren wr k) :
    (currentEL s == .el0 && el0Traps s.pmu.useren wr k) = true := by
  simp [hl, (el0Traps_iff _ _ _).mpr h]

theorem el0Check_eq_false {wr : Bool} {k : El0Class} (h : currentEL s = .el0 → ¬ El0Denied s.pmu.useren wr k) :
    (currentEL s == .el0 && el0Traps s.pmu.useren wr k) = false := by
  rw [Bool.and_eq_false_imp, beq_iff_eq]
  exact fun hl => Bool.eq_false_iff.mpr (mt (el0Traps_iff _ _ _).mp (h hl))

/-- HSTR.T9 acts. -/
theorem t9Eff_iff (hg : GuestLevel s) : t9Eff s = true ↔ ¬ T9Clear s := by
  have acts : t9Eff s = false ↔ s.ctl.hstr.getLsbD 9 = false ∨
      (s.pe.aa32El2 = false ∧ s.ctl.hcr.getLsbD 34 = true ∧ s.ctl.hcr.getLsbD 27 = true) := by
    simp only [t9Eff, hstrEff, hcrE2h, hcrTge, Bool.and_eq_false_iff, Bool.not_eq_false', Bool.and_eq_true,
      Bool.not_eq_true', and_assoc]
  rw [← Bool.not_eq_false, acts]
  exact not_congr ⟨fun h _ => h, fun h => h hg⟩

/-- MDCR_EL2 has an MRS or MSR of r trapped: TPM any, TPMCR one of PMCR. -/
def El2Traps64 (s : State) (r : A64Reg) : Prop :=
  s.ctl.mdcr2.getLsbD 6 = true ∨ (r = .pmcr ∧ s.ctl.mdcr2.getLsbD 5 = true)

/-- MDCR_EL2 or HSTR has an AArch32 access of r trapped: T9 one of the registers of c9. -/
def El2Traps32 (s : State) (r : A32Reg) : Prop :=
  s.ctl.mdcr2.getLsbD 6 = true ∨ (r = .pmcr ∧ s.ctl.mdcr2.getLsbD 5 = true) ∨ (usesC9 r = true ∧ ¬ T9Clear s)

theorem not_el2Traps64 {r : A64Reg} (htpm : s.ctl.mdcr2.getLsbD 6 = false)
    (htpmcr : r = .pmcr → s.ctl.mdcr2.getLsbD 5 = false) : ¬ El2Traps64 s r := by
  rintro (h | ⟨hr, h⟩)
  · exact Bool.eq_false_iff.mp htpm h
  · exact Bool.eq_false_iff.mp (htpmcr hr) h

theorem not_el2Traps32 {r : A32Reg} (htpm : s.ctl.mdcr2.getLsbD 6 = false)
    (htpmcr : r = .pmcr → s.ctl.mdcr2.getLsbD 5 = false) (h9 : usesC9 r = true → T9Clear s) : ¬ El2Traps32 s r := by
  rintro (h | ⟨hr, h⟩ | ⟨hc9, ht9⟩)
  · exact Bool.eq_false_iff.mp htpm h
  · exact Bool.eq_false_iff.mp (htpmcr hr) h
  · exact ht9 (h9 hc9)

/-- Step 3 of the AArch64 procedure. -/
theorem el2Check64_iff {r : A64Reg} :
    (el2MayTrap s && (tpm2 s || (r == .pmcr && tpmcr2 s))) = true ↔ GuestLevel s ∧ El2Traps64 s r := by
  rw [Bool.and_eq_true, el2MayTrap, guestView_iff]
  simp [tpm2, tpmcr2, El2Traps64]

/-- Step 3 of the AArch32 procedure. -/
theorem el2Check32_iff {r : A32Reg} :
    (el2MayTrap s && (tpm2 s || (r == .pmcr && tpmcr2 s) || (t9Eff s && usesC9 r))) = true ↔
      GuestLevel s ∧ El2Traps32 s r := by
  rw [Bool.and_eq_true, el2MayTrap, guestView_iff]
  refine and_congr_right fun hg => ?_
  rw [Bool.or_eq_true, Bool.and_eq_true, t9Eff_iff hg, and_comm (a := ¬ T9Clear s)]
  simp [tpm2, tpmcr2, El2Traps32, or_assoc]

/-- Step 4. -/
theorem el3Traps_iff : el3Traps s = true ↔
    s.cfg.haveEL3 = true ∧ s.pe.aa32El3 = false ∧ currentEL s ≠ .el3 ∧ s.ctl.mdcr3.getLsbD 6 = true := by
  simp [el3Traps, tpm3, and_assoc]

/-! ### The AArch64 procedure -/

section
variable {r : A64Reg} {wr : Bool} {t : BitVec 5}

theorem trapCheck64_undefined (ha : allocated64 r wr (currentEL s) = false) :
    trapCheck64 r wr t s = some (undefinedExc s) := by
  simp [trapCheck64, ha]

theorem trapCheck64_el0 (hl : currentEL s = .el0) (ha : allocated64 r wr .el0 = true)
    (hd : El0Denied s.pmu.useren wr (el0Class64 r)) :
    trapCheck64 r wr t s =
      some (.toAArch64 (if tgeReroutes s then .el2 else .el1) (syndrome64 r.sel wr t)) := by
  rw [← hl] at ha
  simp only [trapCheck64, ha, el0Check_eq_true hl hd, Bool.not_true, Bool.false_eq_true, if_false, if_true]

theorem trapCheck64_el2 (ha : allocated64 r wr (currentEL s) = true)
    (h0 : currentEL s = .el0 → ¬ El0Denied s.pmu.useren wr (el0Class64 r)) (hg : GuestLevel s)
    (h2 : El2Traps64 s r) :
    trapCheck64 r wr t s = some (.toAArch64 .el2 (syndrome64 r.sel wr t)) := by
  simp only [trapCheck64, ha, el0Check_eq_false h0, el2Check64_iff.mpr ⟨hg, h2⟩, Bool.not_true, Bool.false_eq_true,
    if_false, if_true]

theorem trapCheck64_el3 (ha : allocated64 r wr (currentEL s) = true)
    (h0 : currentEL s = .el0 → ¬ El0Denied s.pmu.useren wr (el0Class64 r))
    (h2 : GuestLevel s → ¬ El2Traps64 s r) (h3 : el3Traps s = true) :
    trapCheck64 r wr t s = some (.toAArch64 .el3 (syndrome64 r.sel wr t)) := by
  have hno2 := Bool.eq_false_iff.mpr (mt el2Check64_iff.mp (not_and.mpr h2))
  simp only [trapCheck64, ha, el0Check_eq_false h0, hno2, h3, Bool.not_true, Bool.false_eq_true, if_false, if_true]

/-- An AArch64 access that steps 1 to 4 stop takes their exception. -/
theorem exec_of_trapCheck64 {i : Instr} {x : Exc} (hform : i.form = .a64 r wr t) (h : trapCheck64 r wr t s = some x) :
    exec i s = .next (takeException x s) := by
  obtain ⟨body, hexec⟩ := exec_a64 s hform
  rw [hexec, access64_trapped h]

end

/-! ### The AArch32 procedure -/

section
variable {r : A32Reg} {wr : Bool} {a : Access32}

theorem trapCheck32_undefined (ha : allocated32 r wr (currentEL s) = false) :
    trapCheck32 r wr a s = some (undefinedExc s) := by
  simp [trapCheck32, ha]

theorem trapCheck32_el0 (hl : currentEL s = .el0) (ha : allocated32 r wr .el0 = true)
    (hd : El0Denied s.pmu.useren wr (el0Class32 r)) : trapCheck32 r wr a s = some (el0TrapExc32 a s) := by
  rw [← hl] at ha
  simp only [trapCheck32, ha, el0Check_eq_true hl hd, Bool.not_true, Bool.false_eq_true, if_false, if_true]

theorem trapCheck32_el2 (ha : allocated32 r wr (currentEL s) = true)
    (h0 : currentEL s = .el0 → ¬ El0Denied s.pmu.useren wr (el0Class32 r)) (hg : GuestLevel s)
    (h2 : El2Traps32 s r) :
    trapCheck32 r wr a s = some (el2TrapExc32 a s) := by
  simp only [trapCheck32, ha, el0Check_eq_false h0, el2Check32_iff.mpr ⟨hg, h2⟩, Bool.not_true, Bool.false_eq_true,
    if_false, if_true]

theorem trapCheck32_el3 (ha : allocated32 r wr (currentEL s) = true)
    (h0 : currentEL s = .el0 → ¬ El0Denied s.pmu.useren wr (el0Class32 r))
    (h2 : GuestLevel s → ¬ El2Traps32 s r) (h3 : el3Traps s = true) :
    trapCheck32 r wr a s = some (.toAArch64 .el3 (esr32 s a)) := by
  have hno2 := Bool.eq_false_iff.mpr (mt el2Check32_iff.mp (not_and.mpr h2))
  simp only [trapCheck32, ha, el0Check_eq_false h0, hno2, h3, Bool.not_true, Bool.false_eq_true, if_false, if_true]

/-- An AArch32 access whose condition passes and that steps 1 to 4 stop takes their exception. -/
theorem exec_of_trapCheck32 {i : Instr} {c : BitVec 4} {x : Exc} (hi : Names32 i r wr c a)
    (hc : conditionPasses s c = true) (h : trapCheck32 r wr a s = some x) : exec i s = .next (takeException x s) := by
  obtain ⟨t, hform, ht, rfl⟩ | ⟨t, t2, hform, rfl, ht, ht2, hne, rfl⟩ := hi
  · obtain ⟨body, hexec⟩ := exec_a32 s hform
    rw [hexec, conditional32, if_pos hc, if_pos ht, access32_trapped h]
  · obtain ⟨zero, body, hexec⟩ := exec_a32Wide s hform
    have hregs : (wfReg32 t && wfReg32 t2 && (wr || t != t2)) = true := by
      cases wr <;> simp_all
    rw [hexec, conditional32, if_pos hc, if_pos hregs, access32_trapped h]

end

/-! ### The obligations -/

/-- Settles O38: the five registers are not allocated at EL0, and UNDEFINED goes where `undefTarget` says. -/
theorem undefinedAtEl0 : Obligations.UndefinedAtEl0 := by
  intro s
  have above {el : EL} (h : currentEL s = el) (hel : el ≠ .el0) : undefTarget s = el := by
    rw [← h] at hel ⊢
    exact undefTarget_aboveEl0 hel
  refine ⟨isSecure_iff, tgeReroutes_iff, ?el1In64, ?el1In32, ?el2In64, ?el2In32, ?el3In64, ?el3In32, fun hl => ?el0⟩
  case el1In64 | el2In64 | el3In64 => exact fun hl => undefinedExc_toAArch64 (above hl nofun)
  case el1In32 | el3In32 => exact fun hl => undefinedExc_toUndefined (above hl nofun) nofun
  case el2In32 => exact fun hl => undefinedExc_toHyp (above hl nofun)
  have un64 {i : Instr} {r : A64Reg} {wr : Bool} {t : BitVec 5} (hform : i.form = .a64 r wr t)
      (ha : allocated64 r wr .el0 = false) : exec i s = .next (takeException (undefinedExc s) s) :=
    exec_of_trapCheck64 hform (trapCheck64_undefined (by rw [hl, ha]))
  have un32 {i : Instr} {r : A32Reg} {wr : Bool} {c t : BitVec 4} (hform : i.form = .a32 r wr c t)
      (ha : allocated32 r wr .el0 = false) (hc : conditionPasses s c = true) (ht : wfReg32 t = true) :
      exec i s = .next (takeException (undefinedExc s) s) :=
    exec_of_trapCheck32 (.inl ⟨t, hform, ht, rfl⟩) hc (trapCheck32_undefined (by rw [hl, ha]))
  have toEl1 (h : tgeReroutes s = false) : undefTarget s = .el1 := by simp [undefTarget_el0 hl, h]
  have toEl2 (h : tgeReroutes s = true) : undefTarget s = .el2 := by simp [undefTarget_el0 hl, h]
  refine ⟨fun t => ⟨un64 rfl rfl, un64 rfl rfl, un64 rfl rfl, un64 rfl rfl, un64 rfl rfl⟩, fun c t hc ht => ?_,
    fun h => undefinedExc_toAArch64 (toEl1 h), fun h => undefinedExc_toUndefined (toEl1 h) nofun,
    fun h => undefinedExc_toAArch64 (toEl2 h), fun h => undefinedExc_toHyp (toEl2 h)⟩
  exact ⟨un32 rfl rfl hc ht, un32 rfl rfl hc ht, un32 rfl rfl hc ht, un32 rfl rfl hc ht, un32 rfl rfl hc ht⟩

/-- Settles O39: step 2 stops the access. -/
theorem el0TrapsTaken : Obligations.El0TrapsTaken := by
  intro i s hl
  refine ⟨fun r wr t hform ha hd => exec_of_trapCheck64 hform (trapCheck64_el0 hl ha hd),
    fun r wr c a hi hc ha hd => ?_⟩
  have hexec : exec i s = .next (takeException (el0TrapExc32 a s) s) :=
    exec_of_trapCheck32 hi hc (trapCheck32_el0 hl ha hd)
  rw [hexec]
  refine ⟨fun h h1 => ?_, fun h h1 => ?_, fun h h2 => ?_, fun h h2 => ?_⟩
  · simp [el0TrapExc32, h, h1]
  · simp [el0TrapExc32, h, h1]
  · simp [el0TrapExc32, h, h2, undefSyndrome]
  · simp [el0TrapExc32, h, h2]

/-- Settles O40: step 3 stops the access. -/
theorem el2TrapsTaken : Obligations.El2TrapsTaken := by
  intro i s hg
  refine ⟨fun r wr t hform ha h0 h2 => exec_of_trapCheck64 hform (trapCheck64_el2 ha h0 hg h2),
    fun r wr c a hi hc ha h0 h2 => ?_⟩
  have hexec : exec i s = .next (takeException (el2TrapExc32 a s) s) :=
    exec_of_trapCheck32 hi hc (trapCheck32_el2 ha h0 hg h2)
  rw [hexec, el2TrapExc32]
  exact ⟨fun h => by rw [h]; rfl, fun h => by rw [h]; rfl⟩

/-- Settles O41: step 4 stops the access. -/
theorem el3TrapsTaken : Obligations.El3TrapsTaken := by
  intro i s h3 h32 hl htpm3 htpm2
  have hel3 : el3Traps s = true := el3Traps_iff.mpr ⟨h3, h32, hl, htpm3⟩
  exact ⟨fun r wr t hform ha h0 htpmcr => exec_of_trapCheck64 hform
      (trapCheck64_el3 ha h0 (fun hg => not_el2Traps64 (htpm2 hg) (htpmcr hg)) hel3),
    fun r wr c a hi hc ha h0 htpmcr h9 => exec_of_trapCheck32 hi hc
      (trapCheck32_el3 ha h0 (fun hg => not_el2Traps32 (htpm2 hg) (htpmcr hg) h9) hel3)⟩

end Sys2Proof.Machine
end

section
/-! PROOFS. MRC, MCR, MRRC and MCRR of the PMU registers that the checks let through (O16 to O23), on the plan of MRS
and MSR: steps 1 to 4 let an access through (`LetThrough32`), step 5 gives the counter that its body runs on, and each
instruction that names a counter is described once, for whatever counter step 5 gives it. -/
namespace Sys2Proof.Machine

open Sys2Proof

variable {s : State}

/-! ### Steps 1 to 4: the traps (41_aarch32 R420 to R428) -/

/-- The condition passes, and steps 1 to 4 of the AArch32 procedure stop the access by nothing. -/
structure LetThrough32 (r : A32Reg) (wr : Bool) (c : BitVec 4) (s : State) : Prop where
  allocated : allocated32 r wr (currentEL s) = true
  permitted : FromEl0 s fun u => ¬ El0Denied u wr (el0Class32 r)
  ready : Ready32 s c (r == .pmcr) (usesC9 r)

theorem LetThrough32.condition {r : A32Reg} {wr : Bool} {c : BitVec 4} (h : LetThrough32 r wr c s) :
    conditionPasses s c = true := h.ready.1

theorem LetThrough32.trapCheck {r : A32Reg} {wr : Bool} {c : BitVec 4} (h : LetThrough32 r wr c s) (a : Access32) :
    trapCheck32 r wr a s = none := by
  obtain ⟨-, hn, h9⟩ := h.ready
  exact trapCheck32_none h.allocated
    (fun hl => Bool.eq_false_iff.mpr (mt (el0Traps_iff _ _ _).mp (h.permitted hl))) hn h9

/-! ### How an access ends -/

theorem conditional32_of_passed {c : BitVec 4} {ok : Bool} {run : State → State} (h : conditionPasses s c = true)
    (hok : ok = true) : conditional32 c ok run s = .next (run s) := by
  simp [conditional32, h, hok]

section
variable {i : Instr} {r : A32Reg} {wr : Bool} {c t : BitVec 4} {n : Nat}

theorem access32_of_run {a : Access32} {zero : State → State} {body : Nat → State → State} (h : LetThrough32 r wr c s)
    (hn : counterReach s (counterUse32 r) = .run n) : access32 r wr a zero body s = body n s := by
  simp only [access32, h.trapCheck, hn]

theorem mrcRuns_of_run {v : Nat → State → W32} {w : W32} {k : Nat} (h : LetThrough32 r false c s)
    (ht : wfReg32 t = true) (hn : counterReach s (counterUse32 r) = .run n)
    (hexec : exec i s = mrc32 r c t (fun n s => finishMrc t (v n s) k s) s) (hv : v n s = w) : MrcRuns i s t w := by
  subst hv
  refine ⟨finishMrc t (v n s) k s, ?_, finishMrc_done t (v n s) k s ht⟩
  rw [hexec, mrc32, conditional32_of_passed h.condition ht, access32_of_run h hn]

theorem writeRuns_of_run32 {body : Nat → State → State} {p : Pmu} (h : LetThrough32 r true c s) (ht : wfReg32 t = true)
    (hn : counterReach s (counterUse32 r) = .run n) (hexec : exec i s = mcr32 r c t body s)
    (hbody : WriteDone s (body n s) p) : WriteRuns i s p := by
  refine ⟨body n s, ?_, hbody⟩
  rw [hexec, mcr32, conditional32_of_passed h.condition ht, access32_of_run h hn]

end

/-- The bits of a filter or type register that the AArch32 view shows (log 25). -/
theorem not_mBit : ~~~mBit = 0xFBFFFFFF := by decide

/-! ### The registers that name no counter -/

/-- Settles O16, each instruction by its access and the mask of the view. -/
theorem maskRegisters32 : Obligations.MaskRegisters32 := by
  intro s c t hr ht m v
  refine ⟨fun hen => ?_, fun hl => ?_⟩
  · refine ⟨?_, ?_, ?_, ?_, ?_, ?_, ?_, ?_⟩
    · exact mrcRuns_of_run (r := .pmcntenset) ⟨rfl, hen.ofEn, hr⟩ ht rfl rfl rfl
    · exact mrcRuns_of_run (r := .pmcntenclr) ⟨rfl, hen.ofEn, hr⟩ ht rfl rfl rfl
    · exact mrcRuns_of_run (r := .pmovsr) ⟨rfl, hen.ofEn, hr⟩ ht rfl rfl rfl
    · exact mrcRuns_of_run (r := .pmovsset) ⟨rfl, hen.ofEn, hr⟩ ht rfl rfl rfl
    · exact writeRuns_of_run32 (r := .pmcntenset) ⟨rfl, hen.ofEn, hr⟩ ht rfl rfl (writeDone_pmu _ s)
    · exact writeRuns_of_run32 (r := .pmcntenclr) ⟨rfl, hen.ofEn, hr⟩ ht rfl rfl (writeDone_pmu _ s)
    · exact writeRuns_of_run32 (r := .pmovsr) ⟨rfl, hen.ofEn, hr⟩ ht rfl rfl (writeDone_pmu _ s)
    · exact writeRuns_of_run32 (r := .pmovsset) ⟨rfl, hen.ofEn, hr⟩ ht rfl rfl (writeDone_pmu _ s)
  · have aboveEl0 : (currentEL s != .el0) = true := bne_iff_ne.mpr hl
    refine ⟨?_, ?_, ?_, ?_⟩
    · exact mrcRuns_of_run (r := .pmintenset) ⟨aboveEl0, fromEl0_never, hr⟩ ht rfl rfl rfl
    · exact mrcRuns_of_run (r := .pmintenclr) ⟨aboveEl0, fromEl0_never, hr⟩ ht rfl rfl rfl
    · exact writeRuns_of_run32 (r := .pmintenset) ⟨aboveEl0, fromEl0_never, hr⟩ ht rfl rfl (writeDone_pmu _ s)
    · exact writeRuns_of_run32 (r := .pmintenclr) ⟨aboveEl0, fromEl0_never, hr⟩ ht rfl rfl (writeDone_pmu _ s)

/-- Settles O17: the read is `pmcrValue`, the write `writePmcr`, as for PMCR_EL0. -/
theorem pmcrThroughAArch32 : Obligations.PmcrThroughAArch32 := by
  intro s c t hr ht hen
  refine ⟨⟨nRead s, pmcrNReads_nRead s, ?mrc⟩, _, writePmcr_written s _ _ (accessibleN_le_31 s), ?mcr⟩
  case mrc => exact mrcRuns_of_run (r := .pmcr) ⟨rfl, hen.ofEn, hr⟩ ht rfl rfl rfl
  case mcr => exact writeRuns_of_run32 (r := .pmcr) ⟨rfl, hen.ofEn, hr⟩ ht rfl rfl (writeDone_pmu _ s)

/-- Settles O18, each register by its value. -/
theorem mrcOfSingleRegisters : Obligations.MrcOfSingleRegisters := by
  intro s c t ht
  have low (v : W64) : v.extractLsb' 0 32 = v.setWidth 32 := (BitVec.setWidth_eq_extractLsb' (by omega)).symm
  refine ⟨fun hr => ⟨fun hsel => ?pmselr, fun hen => ⟨⟨ceid0 s.cfg, ceidWord_eventMask s.cfg 0, ?pmceid0, ?pmceid2⟩,
    ⟨ceid1 s.cfg, ceidWord_eventMask s.cfg 0x20, ?pmceid1, ?pmceid3⟩⟩, fun hcr => ?pmccntr, ?pmuserenr⟩,
    fun hr hen => ?pmccfiltr⟩
  case pmselr =>
    exact ⟨selValue s, selReads_selValue s, mrcRuns_of_run (r := .pmselr) ⟨rfl, hsel.selector, hr⟩ ht rfl rfl rfl⟩
  case pmceid0 => exact mrcRuns_of_run (r := .pmceid0) ⟨rfl, hen.ofEn, hr⟩ ht rfl rfl (low _)
  case pmceid1 => exact mrcRuns_of_run (r := .pmceid1) ⟨rfl, hen.ofEn, hr⟩ ht rfl rfl (low _)
  case pmceid2 => exact mrcRuns_of_run (r := .pmceid2) ⟨rfl, hen.ofEn, hr⟩ ht rfl rfl rfl
  case pmceid3 => exact mrcRuns_of_run (r := .pmceid3) ⟨rfl, hen.ofEn, hr⟩ ht rfl rfl rfl
  case pmccntr => exact mrcRuns_of_run (r := .pmccntr) ⟨rfl, hcr.cycleCount, hr⟩ ht rfl rfl rfl
  case pmuserenr => exact mrcRuns_of_run (r := .pmuserenr) ⟨rfl, fromEl0_never, hr⟩ ht rfl rfl rfl
  case pmccfiltr => exact mrcRuns_of_run (r := .pmccfiltr) ⟨rfl, hen.ofEn, hr⟩ ht rfl rfl (by rw [not_mBit])

/-- The end of a write of CCFILT through the AArch32 view: M stays. -/
theorem writeCcfilt32_done {k : Nat} (v : W32) (s : State) :
    WriteDone s (retire (bump k (writeCcfilt32 v s))) { s.pmu with
      ccfilt := (v &&& filterMask s.cfg &&& 0xFBFFFFFF) ||| (s.pmu.ccfilt &&& 0x04000000) } := by
  rw [← not_mBit]
  exact writeDone_pmu_bump _ k s

/-- Settles O19, each register by its write. -/
theorem mcrOfSingleRegisters : Obligations.McrOfSingleRegisters := by
  intro s c t ht
  refine ⟨fun hr => ⟨fun hsel => ?pmselr, fun hen => ?pmccntr, fun hl => ?pmuserenr⟩, fun hr hen => ?pmccfiltr⟩
  case pmselr => exact writeRuns_of_run32 (r := .pmselr) ⟨rfl, hsel.selector, hr⟩ ht rfl rfl (writeDone_pmu _ s)
  case pmccntr => exact writeRuns_of_run32 (r := .pmccntr) ⟨rfl, hen.ofEn, hr⟩ ht rfl rfl (writeDone_pmu _ s)
  case pmuserenr =>
    have ha : allocated32 .pmuserenr true (currentEL s) = true := by simpa [allocated32] using hl
    exact writeRuns_of_run32 (r := .pmuserenr) ⟨ha, fromEl0_never, hr⟩ ht rfl rfl (writeDone_pmu _ s)
  case pmccfiltr =>
    exact writeRuns_of_run32 (r := .pmccfiltr) ⟨rfl, hen.ofEn, hr⟩ ht rfl rfl (writeCcfilt32_done (k := 0) _ s)

/-- Settles O20, by `softwareIncrement_counted`. -/
theorem mcrOfPmswinc : Obligations.McrOfPmswinc := by
  intro s c t hr ht hsw
  exact ⟨_, softwareIncrement_counted s _ _ (accessibleN_le_31 s),
    writeRuns_of_run32 (r := .pmswinc) ⟨rfl, hsw.softInc, hr⟩ ht rfl rfl (writeDone_pmu _ s)⟩

/-! ### The registers that name a counter -/

/-- The type register m after MCR of v: M stays. -/
def typed32 (s : State) (m : Nat) (v : W32) : W32 :=
  (v &&& typeMask s.cfg &&& 0xFBFFFFFF) ||| (evtypeAt s.pmu m &&& 0x04000000)

theorem writeEvtype32_eq (m : Nat) (v : W32) (s : State) :
    writeEvtype32 m v s = { s with pmu := setEvtype m (typed32 s m v) s.pmu } := by
  rw [writeEvtype32, not_mBit, mBit, typed32]

section
variable {n : BitVec 5} {c t : BitVec 4} {m : Nat}

theorem mrcRuns_pmevcntr (h : LetThrough32 (.pmevcntr n) false c s) (ht : wfReg32 t = true)
    (hm : counterReach s (.direct n.toNat) = .run m) : MrcRuns (.mrcPmevcntrn c n t) s t (evcntAt s.pmu m) :=
  mrcRuns_of_run h ht hm rfl rfl

theorem mrcRuns_pmevtyper (h : LetThrough32 (.pmevtyper n) false c s) (ht : wfReg32 t = true)
    (hm : counterReach s (.direct n.toNat) = .run m) :
    ∃ v, TypeReads s m v ∧ MrcRuns (.mrcPmevtypern c n t) s t (v &&& 0xFBFFFFFF) :=
  ⟨evtypeValue s m, typeReads_evtypeValue s m, mrcRuns_of_run h ht hm rfl (by rw [not_mBit])⟩

theorem mrcRuns_pmxevcntr (h : LetThrough32 .pmxevcntr false c s) (ht : wfReg32 t = true)
    (hm : counterReach s .selectedCount = .run m) : MrcRuns (.mrcPmxevcntr c t) s t (evcntAt s.pmu m) :=
  mrcRuns_of_run h ht hm rfl rfl

theorem mrcRuns_pmxevtyper (h : LetThrough32 .pmxevtyper false c s) (ht : wfReg32 t = true)
    (hm : counterReach s .selectedType = .run m) (hlt : m < accessibleN s) :
    ∃ v, TypeReads s m v ∧ MrcRuns (.mrcPmxevtyper c t) s t (v &&& 0xFBFFFFFF) := by
  have hne : m ≠ 31 := Nat.ne_of_lt (hlt.trans_le (accessibleN_le_31 s))
  refine ⟨evtypeValue s m, typeReads_evtypeValue s m, mrcRuns_of_run h ht hm rfl ?_⟩
  rw [xtypeValue, if_neg hne, not_mBit]

/-- PMXEVTYPER as PMCCFILTR. -/
theorem mrcRuns_pmxevtyper_31 (h : LetThrough32 .pmxevtyper false c s) (ht : wfReg32 t = true)
    (hm : counterReach s .selectedType = .run 31) :
    MrcRuns (.mrcPmxevtyper c t) s t (s.pmu.ccfilt &&& 0xFBFFFFFF) :=
  mrcRuns_of_run h ht hm rfl (by rw [xtypeValue, if_pos rfl, not_mBit])

theorem writeRuns32_pmevcntr (h : LetThrough32 (.pmevcntr n) true c s) (ht : wfReg32 t = true)
    (hm : counterReach s (.direct n.toNat) = .run m) (hlt : m < accessibleN s) :
    ∃ p, EvcntSet m (readR s t) s.pmu p ∧ WriteRuns (.mcrPmevcntrn c n t) s p :=
  ⟨_, evcntSet_setEvcnt m _ _ (hlt.trans_le (accessibleN_le_31 s)), writeRuns_of_run32 h ht hm rfl (writeDone_pmu _ s)⟩

theorem writeRuns32_pmevtyper (h : LetThrough32 (.pmevtyper n) true c s) (ht : wfReg32 t = true)
    (hm : counterReach s (.direct n.toNat) = .run m) (hlt : m < accessibleN s) :
    ∃ p, EvtypeSet m (typed32 s m (readR s t)) s.pmu p ∧ WriteRuns (.mcrPmevtypern c n t) s p := by
  refine ⟨_, evtypeSet_setEvtype m _ _ (hlt.trans_le (accessibleN_le_31 s)), writeRuns_of_run32 h ht hm rfl ?_⟩
  rw [writeEvtype32_eq]
  exact writeDone_pmu _ s

theorem writeRuns32_pmxevcntr (h : LetThrough32 .pmxevcntr true c s) (ht : wfReg32 t = true)
    (hm : counterReach s .selectedCount = .run m) (hlt : m < accessibleN s) :
    ∃ p, EvcntSet m (readR s t) s.pmu p ∧ WriteRuns (.mcrPmxevcntr c t) s p :=
  ⟨_, evcntSet_setEvcnt m _ _ (hlt.trans_le (accessibleN_le_31 s)),
    writeRuns_of_run32 h ht hm rfl (writeDone_pmu_bump _ 2 s)⟩

theorem writeRuns32_pmxevtyper (h : LetThrough32 .pmxevtyper true c s) (ht : wfReg32 t = true)
    (hm : counterReach s .selectedType = .run m) (hlt : m < accessibleN s) :
    ∃ p, EvtypeSet m (typed32 s m (readR s t)) s.pmu p ∧ WriteRuns (.mcrPmxevtyper c t) s p := by
  have hlt31 : m < 31 := hlt.trans_le (accessibleN_le_31 s)
  refine ⟨_, evtypeSet_setEvtype m _ _ hlt31, writeRuns_of_run32 h ht hm rfl ?_⟩
  rw [writeXtype32, if_neg (Nat.ne_of_lt hlt31), writeEvtype32_eq]
  exact writeDone_pmu_bump _ 2 s

/-- PMXEVTYPER as PMCCFILTR. -/
theorem writeRuns32_pmxevtyper_31 (h : LetThrough32 .pmxevtyper true c s) (ht : wfReg32 t = true)
    (hm : counterReach s .selectedType = .run 31) :
    WriteRuns (.mcrPmxevtyper c t) s { s.pmu with
      ccfilt := (readR s t &&& filterMask s.cfg &&& 0xFBFFFFFF) ||| (s.pmu.ccfilt &&& 0x04000000) } :=
  writeRuns_of_run32 h ht hm rfl (writeCcfilt32_done _ s)

end

/-- Settles O21, by the reads of the four registers and the counter each is given. -/
theorem mrcOfCounters : Obligations.MrcOfCounters := by
  intro s c n t ht
  refine ⟨fun hr hlt => ⟨fun her => ?pmevcntr, fun hen => ?pmevtyper⟩,
    fun hr => ⟨fun hlt her => ?pmxevcntr, fun hlt hen => ?pmxevtyper, fun h31 hen => ?pmccfiltr⟩⟩
  case pmevcntr => exact mrcRuns_pmevcntr ⟨wfCounter_of_lt hlt, her.eventCount, hr⟩ ht (counterReach_direct hlt)
  case pmevtyper => exact mrcRuns_pmevtyper ⟨wfCounter_of_lt hlt, hen.ofEn, hr⟩ ht (counterReach_direct hlt)
  case pmxevcntr => exact mrcRuns_pmxevcntr ⟨rfl, her.eventCount, hr⟩ ht (counterReach_selectedCount hlt)
  case pmxevtyper => exact mrcRuns_pmxevtyper ⟨rfl, hen.ofEn, hr⟩ ht (counterReach_selectedType hlt) hlt
  case pmccfiltr => exact mrcRuns_pmxevtyper_31 ⟨rfl, hen.ofEn, hr⟩ ht (counterReach_selectedType_31 h31)

/-- Settles O22, by the writes of the four registers and the counter each is given. -/
theorem mcrOfCounters : Obligations.McrOfCounters := by
  intro s c n t ht hen typed
  refine ⟨fun hr hlt => ⟨?pmevcntr, ?pmevtyper⟩,
    fun hr => ⟨fun hlt => ⟨?pmxevcntr, ?pmxevtyper⟩, fun h31 => ?pmccfiltr⟩⟩
  case pmevcntr => exact writeRuns32_pmevcntr ⟨wfCounter_of_lt hlt, hen.ofEn, hr⟩ ht (counterReach_direct hlt) hlt
  case pmevtyper => exact writeRuns32_pmevtyper ⟨wfCounter_of_lt hlt, hen.ofEn, hr⟩ ht (counterReach_direct hlt) hlt
  case pmxevcntr => exact writeRuns32_pmxevcntr ⟨rfl, hen.ofEn, hr⟩ ht (counterReach_selectedCount hlt) hlt
  case pmxevtyper => exact writeRuns32_pmxevtyper ⟨rfl, hen.ofEn, hr⟩ ht (counterReach_selectedType hlt) hlt
  case pmccfiltr => exact writeRuns32_pmxevtyper_31 ⟨rfl, hen.ofEn, hr⟩ ht (counterReach_selectedType_31 h31)

/-! ### The cycle counter in 64 bits (41_aarch32 R440) -/

theorem writeR_pe (t : BitVec 4) (v : W32) (s : State) :
    (writeR t v s).pe = { s.pe with r := (writeR t v s).pe.r } := by
  unfold writeR; split <;> rfl

theorem nextPc_writeR (t : BitVec 4) (v : W32) (s : State) : nextPc (writeR t v s) = nextPc s :=
  nextPc_congr (writeR_pe_pc t v s) (writeR_pe_ps t v s) (writeR_pe_aa32El0 t v s) (writeR_pe_aa32El1 t v s)
    (writeR_pe_aa32El2 t v s) (writeR_pe_aa32El3 t v s)

section
variable {c t t2 : BitVec 4}

theorem exec_mrrcPmccntr (h : LetThrough32 .pmccntr false c s) (ht : wfReg32 t = true) (ht2 : wfReg32 t2 = true)
    (hne : t ≠ t2) : exec (.mrrcPmccntr c t t2) s =
      .next (retire (writeR t2 (s.pmu.ccnt.extractLsb' 32 32) (writeR t (s.pmu.ccnt.setWidth 32) s))) := by
  have hregs : (wfReg32 t && wfReg32 t2 && t != t2) = true := by simp [ht, ht2, hne]
  calc exec (.mrrcPmccntr c t t2) s
      = execMrrcPmccntr c t t2 s := rfl
    _ = _ := by rw [execMrrcPmccntr, conditional32_of_passed h.condition hregs, access32_of_run (n := 0) h rfl]

theorem exec_mcrrPmccntr (h : LetThrough32 .pmccntr true c s) (ht : wfReg32 t = true) (ht2 : wfReg32 t2 = true) :
    exec (.mcrrPmccntr c t t2) s = .next (retire (writeCcnt (readR s t2 ++ readR s t) s)) := by
  have hregs : (wfReg32 t && wfReg32 t2) = true := by simp [ht, ht2]
  calc exec (.mcrrPmccntr c t t2) s
      = execMcrrPmccntr c t t2 s := rfl
    _ = _ := by rw [execMcrrPmccntr, conditional32_of_passed h.condition hregs, access32_of_run (n := 0) h rfl]

end

/-- Settles O23: the read is two writes of general registers, the write one of CCNT. -/
theorem cycleCounterIn64Bits : Obligations.CycleCounterIn64Bits := by
  intro s c t t2 hr ht ht2
  refine ⟨fun hne hcr => ⟨_, exec_mrrcPmccntr ⟨rfl, hcr.cycleCount, hr⟩ ht ht2 hne, ?low, ?high, fun u hu hu2 => ?other,
    ?pe, ?pmu, ?elsewhere⟩, fun hen => ⟨_, exec_mcrrPmccntr ⟨rfl, hen.ofEn, hr⟩ ht ht2, writeDone_pmu _ s⟩⟩
  case low => exact (readR_writeR_other t2 t _ _ hne).trans (readR_writeR_same t _ s ht)
  case high => exact readR_writeR_same t2 _ _ ht2
  case other => exact (readR_writeR_other t2 u _ _ hu2).trans (readR_writeR_other t u _ s hu)
  case pe => rw [retire_pe, nextPc_writeR, nextPc_writeR, writeR_pe t2, writeR_pe t]
  case pmu => simp
  case elsewhere => simp [SameElsewhere]

end Sys2Proof.Machine
end

section
/-! PROOFS. MRC and MCR of a counter that is not accessible (O43). Step 5 is that of AArch64 (O42) on the register of the
same name; what differs is how the access ends. -/
namespace Sys2Proof.Machine

open Sys2Proof

variable {s : State}

/-! ### An access that names an inaccessible counter -/

section
variable {r : A32Reg} {wr : Bool} {idx : Nat}

/-- The AArch64 register of the same name names the same counter, which is not accessible there either. -/
theorem OutOfRange32.sameName (h : OutOfRange32 s r idx) :
    ∃ r64, OutOfRange64 s r64 idx ∧ counterUse64 r64 = counterUse32 r ∧ (r64 = .pmxevcntr → r = .pmxevcntr) ∧
      (r64 = .pmxevtyper → r = .pmxevtyper) := by
  cases r with
  | pmevcntr n => exact ⟨.pmevcntr n, h, rfl, nofun, nofun⟩
  | pmevtyper n => exact ⟨.pmevtyper n, h, rfl, nofun, nofun⟩
  | pmxevcntr => exact ⟨.pmxevcntr, h, rfl, fun _ => rfl, nofun⟩
  | pmxevtyper => exact ⟨.pmxevtyper, h, rfl, nofun, fun _ => rfl⟩
  | _ => exact h.2.elim

theorem OutOfRange32.counterIndex (h : OutOfRange32 s r idx) : counterIndex s (counterUse32 r) = idx := by
  obtain ⟨r64, h64, huse, -, -⟩ := h.sameName
  rw [← huse, h64.counterIndex]

theorem OutOfRange32.reach (h : OutOfRange32 s r idx) :
    counterReach s (counterUse32 r) = outOfRangeReach s (counterUse32 r) := by
  obtain ⟨r64, h64, huse, -, -⟩ := h.sameName
  rw [← huse, h64.reach]

/-- An access that does not go through PMSELR names its counter itself. -/
theorem OutOfRange32.direct (h : OutOfRange32 s r idx) (hr : r ≠ .pmxevcntr ∧ r ≠ .pmxevtyper) :
    counterUse32 r = .direct idx := by
  obtain ⟨r64, h64, huse, hcount, htype⟩ := h.sameName
  rw [← huse, h64.direct ⟨mt hcount hr.1, mt htype hr.2⟩]

theorem OutOfRange32.letThrough {c : BitVec 4} (h : OutOfRange32 s r idx) (hready : Ready32 s c false (usesC9 r))
    (h0 : currentEL s = .el0 → ¬ El0Denied s.pmu.useren wr (el0Class32 r)) : LetThrough32 r wr c s := by
  obtain ⟨-, h⟩ := h
  cases r with
  | pmevcntr n => exact ⟨bne_iff_ne.mpr h.1, h0, hready⟩
  | pmevtyper n => exact ⟨bne_iff_ne.mpr h.1, h0, hready⟩
  | pmxevcntr => exact ⟨rfl, h0, hready⟩
  | pmxevtyper => exact ⟨rfl, h0, hready⟩
  | _ => exact h.elim

end

/-! ### The ends that do not run the body -/

section
variable {i : Instr} {r : A32Reg} {wr : Bool} {c t : BitVec 4} {idx : Nat}

/-- An access that is let through runs its procedure; where it is RAZ/WI, MRC reads zero and MCR writes nothing. -/
theorem exec_of_letThrough32 (hform : i.form = .a32 r wr c t) (ht : wfReg32 t = true) (h : LetThrough32 r wr c s) :
    ∃ body, exec i s =
      .next (access32 r wr (.single r.sel wr c t) (if wr then id else writeR t 0) body s) := by
  obtain ⟨body, hexec⟩ := exec_a32 s hform
  exact ⟨body, by rw [hexec, conditional32_of_passed h.condition ht]⟩

theorem exec_of_denied32 (hform : i.form = .a32 r wr c t) (ht : wfReg32 t = true) (h : LetThrough32 r wr c s)
    (hr : counterReach s (counterUse32 r) = .denied idx) :
    exec i s = .next (takeException (deniedExc32 (.single r.sel wr c t) idx s) s) := by
  obtain ⟨body, hexec⟩ := exec_of_letThrough32 hform ht h
  simp only [hexec, access32, h.trapCheck, hr]

/-- Hyp mode stands in the place of EL2 when EL2 uses AArch32. -/
theorem deniedExc32_trapOffered {a : Access32} (hle : accessibleN s ≤ idx) (ho : TrapOffered s idx) :
    deniedExc32 a idx s = if s.pe.aa32El2 then .toHyp (hsr32 s a) else .toAArch64 .el2 (esr32 s a) := by
  rw [deniedExc32, if_pos (counterTraps_iff.mpr ⟨hle, ho⟩), el2TrapExc32]

theorem deniedExc32_undefined {a : Access32} (ho : ¬ TrapOffered s idx) : deniedExc32 a idx s = undefinedExc s :=
  if_neg (mt counterTraps_iff.mp fun hc => ho hc.2)

theorem mrcRuns_of_zero (hform : i.form = .a32 r false c t) (ht : wfReg32 t = true) (h : LetThrough32 r false c s)
    (hr : counterReach s (counterUse32 r) = .zero) : MrcRuns i s t 0 := by
  obtain ⟨body, hexec⟩ := exec_of_letThrough32 hform ht h
  refine ⟨finishMrc t 0 0 s, ?_, finishMrc_done t 0 0 s ht⟩
  simp only [hexec, access32, h.trapCheck, hr]
  rfl

theorem writeRuns_of_zero32 (hform : i.form = .a32 r true c t) (ht : wfReg32 t = true) (h : LetThrough32 r true c s)
    (hr : counterReach s (counterUse32 r) = .zero) : WriteRuns i s s.pmu := by
  obtain ⟨body, hexec⟩ := exec_of_letThrough32 hform ht h
  refine ⟨retire s, ?_, writeDone_pmu s.pmu s⟩
  simp only [hexec, access32, h.trapCheck, hr, if_true, id]

theorem exec_of_skip32 (hform : i.form = .a32 r wr c t) (ht : wfReg32 t = true) (h : LetThrough32 r wr c s)
    (hr : counterReach s (counterUse32 r) = .skip) : exec i s = .next (retire s) := by
  obtain ⟨body, hexec⟩ := exec_of_letThrough32 hform ht h
  simp only [hexec, access32, h.trapCheck, hr]

end

/-- Settles O43: each value of `CU_COUNTER_ACCESS` sends the access one way of step 5. -/
theorem inaccessibleCounter32 : Obligations.InaccessibleCounter32 := by
  intro i s r wr c t idx hform ht hready h0 hout w denied direct
  have hlet : LetThrough32 r wr c s := hout.letThrough hready h0
  have isDenied (h : outOfRangeReach s (counterUse32 r) = .denied idx) : denied := by
    have hexec := exec_of_denied32 hform ht hlet (hout.reach.trans h)
    refine ⟨fun ho h64 => ?_, fun ho h32 => ?_, fun ho => ?_⟩
    · rw [hexec, deniedExc32_trapOffered hout.1 ho, h64]; rfl
    · rw [hexec, deniedExc32_trapOffered hout.1 ho, h32]; rfl
    · rw [hexec, deniedExc32_undefined ho]
  refine ⟨fun hc => isDenied ?spec, fun hc => ?razWi, fun hc => ?nop, fun hc hd => isDenied ?selUnknownDenied,
    fun hc hpos => ⟨?unknownCount, ?unknownType⟩, fun hc hd => isDenied ?sel31Denied, fun hc hr => ?count31,
    fun hc hr => ?type31⟩
  case spec => rw [outOfRangeReach_undefinedOrTrap hc, hout.counterIndex]
  case razWi =>
    have hzero := hout.reach.trans (outOfRangeReach_razWi hc)
    refine ⟨?_, ?_⟩ <;> rintro rfl
    · exact mrcRuns_of_zero hform ht hlet hzero
    · exact writeRuns_of_zero32 hform ht hlet hzero
  case nop => exact exec_of_skip32 hform ht hlet (hout.reach.trans (outOfRangeReach_nop hc))
  case selUnknownDenied =>
    rcases hd with hd | hd
    · rw [hout.direct hd, outOfRangeReach_direct (.inl hc)]
    · rw [outOfRangeReach_noCounter hc hd, hout.counterIndex]
  case unknownCount =>
    rintro rfl
    have hrun := hout.reach.trans (outOfRangeReach_unknownCounter hc hpos (.inl rfl))
    refine ⟨unknownCounter s, unknownCounter_lt hpos, ?_, ?_⟩ <;> rintro rfl <;>
      obtain rfl := Option.some.inj (a32Instr_of_form hform)
    · exact mrcRuns_pmxevcntr hlet ht hrun
    · exact writeRuns32_pmxevcntr hlet ht hrun (unknownCounter_lt hpos)
  case unknownType =>
    rintro rfl
    have hrun := hout.reach.trans (outOfRangeReach_unknownCounter hc hpos (.inr rfl))
    refine ⟨unknownCounter s, unknownCounter_lt hpos, ?_, ?_⟩ <;> rintro rfl <;>
      obtain rfl := Option.some.inj (a32Instr_of_form hform)
    · exact mrcRuns_pmxevtyper hlet ht hrun (unknownCounter_lt hpos)
    · exact writeRuns32_pmxevtyper hlet ht hrun (unknownCounter_lt hpos)
  case sel31Denied => rw [hout.direct hd, outOfRangeReach_direct (.inr hc)]
  case count31 =>
    subst hr
    have hreach := hout.reach.trans (outOfRangeReach_count31 hc)
    rw [exec_of_denied32 hform ht hlet hreach, deniedExc32_undefined not_trapOffered_31]
  case type31 =>
    subst hr
    have hrun := hout.reach.trans (outOfRangeReach_type31 hc)
    refine ⟨?_, ?_⟩ <;> rintro rfl <;> obtain rfl := Option.some.inj (a32Instr_of_form hform)
    · exact mrcRuns_pmxevtyper_31 hlet ht hrun
    · exact writeRuns32_pmxevtyper_31 hlet ht hrun

end Sys2Proof.Machine
end

section
/-! PROOFS. The registers of the external view that the gates let through (O25 to O29, O31 to O34). Each meaning is the one
access procedure with its register's value and write, so a read answers the value and an unlocked write leaves what the
register's write leaves (`extRuns_plain`); a read-only register ignores its writes (`extRuns_readOnly`). A proof names the
register's meaning, `(rfl : execExtPmcr op mm s = _)`, so that these lemmas take their value and write from it. -/
namespace Sys2Proof.Machine

open Sys2Proof

variable {s : State} {mm : Bool}

/-! ### How an access ends that nothing stops (42_external R481) -/

/-- A read that nothing stops answers the register's value and a write writes it; the read may use up free values. -/
theorem extRuns_access {g : Gate} {rd : Bool → State → W32 × State} {wr : W32 → State → State}
    (i : ExtOp → Bool → Instr) (hx : ∀ op, exec (i op mm) s = extAccess g op mm rd wr s) (hv : ViewExists mm s)
    (hb : blocked g s = none) (hr : ∀ lock, (rd lock s).2 = { s with freeCtr := (rd lock s).2.freeCtr })
    (hw : ∀ v, wr v s = { s with pmu := (wr v s).pmu, freeCtr := (wr v s).freeCtr }) :
    ExtRuns (i .read mm) s (.data (rd (locked mm s) s).1) s.pmu ∧
      (SlkOpen mm s → ∀ v, ExtRuns (i (.write v) mm) s .ok (wr v s).pmu) := by
  refine ⟨⟨_, (hx .read).trans (extAccess_read hv hb), ?read⟩, fun hs v =>
    ⟨_, (hx (.write v)).trans (extAccess_write hv hb), ?write⟩⟩
  case read =>
    rw [hr]
    exact extDone_respond rfl rfl rfl rfl rfl rfl rfl
  case write =>
    rw [locked_open hs, if_neg Bool.false_ne_true, hw]
    exact extDone_respond rfl rfl rfl rfl rfl rfl rfl

/-- The same of a register whose read has no side effect. -/
theorem extRuns_plain {g : Gate} {value : State → W32} {wr : W32 → State → State} (i : ExtOp → Bool → Instr)
    (hx : ∀ op, exec (i op mm) s = extPlain g op mm value wr s) (hv : ViewExists mm s) (hb : blocked g s = none)
    (hw : ∀ v, wr v s = { s with pmu := (wr v s).pmu } := by exact fun _ => rfl) :
    ExtRuns (i .read mm) s (.data (value s)) s.pmu ∧
      (SlkOpen mm s → ∀ v, ExtRuns (i (.write v) mm) s .ok (wr v s).pmu) :=
  extRuns_access i hx hv hb (fun _ => rfl) fun v => by rw [hw v]

/-- There are at most 31 event counters. -/
theorem n_le_31 (c : Config) : c.n.val ≤ 31 := Nat.le_of_lt_succ c.n.isLt

/-! ### Registers behind the gates of the Core power domain -/

/-- Settles O25, each register by its value and its write. -/
theorem externalMaskRegisters : Obligations.ExternalMaskRegisters := by
  refine ⟨⟨rfl, rfl, rfl, rfl, rfl, rfl⟩, fun s mm h => ?_⟩
  have hb := blocked_open h
  obtain ⟨hv, -, -⟩ := h
  have cntenset := extRuns_plain .extPmcntenset (fun op => (rfl : execExtPmcntenset op mm s = _)) hv hb
  have cntenclr := extRuns_plain .extPmcntenclr (fun op => (rfl : execExtPmcntenclr op mm s = _)) hv hb
  have intenset := extRuns_plain .extPmintenset (fun op => (rfl : execExtPmintenset op mm s = _)) hv hb
  have intenclr := extRuns_plain .extPmintenclr (fun op => (rfl : execExtPmintenclr op mm s = _)) hv hb
  have ovsclr := extRuns_plain .extPmovsclr (fun op => (rfl : execExtPmovsclr op mm s = _)) hv hb
  have ovsset := extRuns_plain .extPmovsset (fun op => (rfl : execExtPmovsset op mm s = _)) hv hb
  exact ⟨⟨cntenset.1, cntenclr.1, intenset.1, intenclr.1, ovsclr.1, ovsset.1⟩, fun hs v =>
    ⟨cntenset.2 hs v, cntenclr.2 hs v, intenset.2 hs v, intenclr.2 hs v, ovsclr.2 hs v, ovsset.2 hs v⟩⟩

/-- Settles O26, by `writePmcr_written` with all N counters. -/
theorem externalPmcr : Obligations.ExternalPmcr := by
  intro s mm h
  obtain ⟨read, write⟩ := extRuns_plain .extPmcr (fun op => (rfl : execExtPmcr op mm s = _)) h.1 (blocked_open h)
  exact ⟨read, fun hs v => ⟨_, writePmcr_written s v _ (n_le_31 s.cfg), write hs v⟩⟩

theorem offset_pmevcntr (n : BitVec 5) : (ExtReg.pmevcntr n).offset = 8 * n.setWidth 12 := by
  revert n
  decide

/-- The word beside a counter is listed as not allocated (20_memory R284). -/
theorem reservedOffset_beside_pmevcntr {n : BitVec 5} (hn : n ≠ 31) : reservedOffset (4 + 8 * n.setWidth 12) = true := by
  revert n
  decide

/-- Settles O27: the offsets decode by `extRegOf_offset`, and each register has its value and its write. -/
theorem externalCounters : Obligations.ExternalCounters := by
  refine ⟨⟨rfl, rfl, fun n hn => ⟨offset_pmevcntr n, ?counter, ?beside⟩⟩, fun s mm h => ?accesses⟩
  case counter =>
    rw [← offset_pmevcntr]
    exact extRegOf_offset (r := .pmevcntr n) (bne_iff_ne.mpr hn)
  case beside => exact extRegOf_offset (r := .reserved _) (reservedOffset_beside_pmevcntr hn)
  case accesses =>
    have hb := blocked_open h
    obtain ⟨hv, -, -⟩ := h
    have lo := extRuns_plain .extPmccntrLo (fun op => (rfl : execExtPmccntrLo op mm s = _)) hv hb
    have hi := extRuns_plain .extPmccntrHi (fun op => (rfl : execExtPmccntrHi op mm s = _)) hv hb
    refine ⟨fun n hn => ?_, lo.1, hi.1, fun hs v => ⟨lo.2 hs v, hi.2 hs v⟩⟩
    obtain ⟨read, write⟩ := extRuns_plain (.extPmevcntrn n) (fun _ => if_pos hn) hv hb
    exact ⟨read, fun hs v => ⟨_, evcntSet_setEvcnt _ v s.pmu (hn.trans_le (n_le_31 s.cfg)), write hs v⟩⟩

/-- PMCFGR as an or of its fields (13_external R222). -/
theorem pmcfgr_eq (c : Config) :
    pmcfgr c = (if c.haveEventBus then 0x10000 else 0) ||| (if anyAArch32 c then 0x8000 else 0) ||| 0x7F00 |||
      BitVec.ofNat 32 c.n.val := by
  unfold pmcfgr
  generalize c.haveEventBus = bus, anyAArch32 c = aa32, c.n = n
  revert bus aa32 n
  decide

/-- Settles O28: the type registers read and keep the implementation's bits, and the constants are read-only. -/
theorem externalConfiguration : Obligations.ExternalConfiguration := by
  intro s mm h
  have hb := blocked_open h
  obtain ⟨hv, -, -⟩ := h
  have filter := extRuns_plain .extPmccfiltr (fun op => (rfl : execExtPmccfiltr op mm s = _)) hv hb
  obtain ⟨cfgr, cfgrWrite⟩ := extRuns_readOnly .extPmcfgr (fun op => (rfl : execExtPmcfgr op mm s = _)) hv hb
  obtain ⟨ceid0, ceid0Write⟩ := extRuns_readOnly .extPmceid0 (fun op => (rfl : execExtPmceid0 op mm s = _)) hv hb
  obtain ⟨ceid1, ceid1Write⟩ := extRuns_readOnly .extPmceid1 (fun op => (rfl : execExtPmceid1 op mm s = _)) hv hb
  obtain ⟨ceid2, ceid2Write⟩ := extRuns_readOnly .extPmceid2 (fun op => (rfl : execExtPmceid2 op mm s = _)) hv hb
  obtain ⟨ceid3, ceid3Write⟩ := extRuns_readOnly .extPmceid3 (fun op => (rfl : execExtPmceid3 op mm s = _)) hv hb
  rw [pmcfgr_eq] at cfgr
  rw [← BitVec.setWidth_eq_extractLsb' (by decide)] at ceid0 ceid1
  refine ⟨fun n hn => ?types, filter.1, filter.2, cfgr, ⟨_, ceidWord_eventMask s.cfg 0, ceid0, ceid2⟩,
    ⟨_, ceidWord_eventMask s.cfg 0x20, ceid1, ceid3⟩,
    fun v => ⟨cfgrWrite v, ceid0Write v, ceid1Write v, ceid2Write v, ceid3Write v⟩⟩
  case types =>
    obtain ⟨read, write⟩ :=
      extRuns_access (.extPmevtypern n) (fun _ => if_pos hn) hv hb (fun _ => rfl) (fun _ => rfl)
    exact ⟨⟨_, typeReads_evtypeValue s n.toNat, read⟩,
      fun hs v => ⟨_, evtypeSet_setEvtype _ _ s.pmu (hn.trans_le (n_le_31 s.cfg)), write hs v⟩⟩

/-- Only bits written as 1 create an event. -/
theorem extSwincBits_subset (v : W32) (s : State) : extSwincBits v s &&& ~~~v = 0 := by
  unfold extSwincBits
  split
  case h_1 => exact BitVec.zero_and
  case h_2 => exact BitVec.zero_and
  case h_3 => simp
  case h_4 => rw [BitVec.and_comm v, BitVec.and_assoc]; simp

/-- Settles O33: the bits that create an event are `extSwincBits`, and each is a software increment of its counter. -/
theorem externalPmswinc : Obligations.ExternalPmswinc := by
  intro s mm h hc
  have hx (op : ExtOp) : exec (.extPmswinc op mm) s = extAccess .core op mm (fun _ s => unknownWord s) extSwinc s :=
    if_neg (mt beq_iff_eq.mp hc)
  obtain ⟨read, write⟩ := extRuns_access .extPmswinc hx h.1 (blocked_open h) (fun _ => rfl) (fun _ => rfl)
  exact ⟨⟨_, read⟩, fun hs v => ⟨extSwincBits v s, _, extSwincBits_subset v s, fun ha => by simp [extSwincBits, ha],
    fun hn => by simp [extSwincBits, hn], softwareIncrement_counted s _ _ (n_le_31 s.cfg), write hs v⟩⟩

/-- Settles O34: each is the reserved location, which reads 0 and ignores writes. -/
theorem externalReserved : Obligations.ExternalReserved := by
  intro s mm h zero
  have reserved (i : ExtOp → Bool → Instr) (hx : ∀ op, exec (i op mm) s = reservedAccess op mm s) : zero i :=
    extRuns_readOnly i hx h.1 (blocked_open h)
  refine ⟨fun off => reserved _ fun _ => rfl, fun n hn => ?counters, fun hi => ?itctrl, fun hs => ?swinc,
    fun hp alt => ?pcSample⟩
  case counters =>
    have hlt := Nat.not_lt.mpr hn
    exact ⟨reserved _ fun _ => if_neg hlt, reserved _ fun _ => if_neg hlt⟩
  case itctrl => exact reserved _ fun op => by simp only [exec, execExtPmitctrl, hi]
  case swinc => exact reserved _ fun op => if_pos (beq_iff_eq.mpr hs)
  case pcSample =>
    have hne : ¬ s.cfg.pcSample = true := ne_true_of_eq_false hp
    have lo := reserved (fun op => .extPmpcsrLo alt op.request) fun op => by
      cases op <;> exact if_neg hne
    exact ⟨reserved _ fun _ => if_neg hne, reserved _ fun _ => if_neg hne, reserved _ fun _ => if_neg hne,
      reserved _ fun _ => if_neg hne, lo⟩

/-! ### Registers of either power domain -/

/-- No gate concerns the Debug power domain (42_external R483, R484). -/
theorem blocked_debug (s : State) : blocked .debug s = none := rfl

theorem pmauthstatus_eq (c : Config) :
    pmauthstatus c =
      0#24 ++ (if c.haveEL3 = false ∧ c.secureWhenNoEL3 = false then 0 else 1#1 ++ BitVec.ofBool c.secureNonInvasive) ++
        0#2 ++
        (if c.haveEL3 = false ∧ c.secureWhenNoEL3 = true then 0 else 1#1 ++ BitVec.ofBool c.nonSecureNonInvasive) ++
        0#2 := by
  simp only [pmauthstatus, Bool.and_eq_true, Bool.not_eq_true']

/-- A flag in bit 0. -/
theorem setWidth_ofBool (b : Bool) : (BitVec.ofBool b).setWidth 32 = if b then 1 else 0 := by cases b <;> rfl

/-- The low byte of the part number under zeros. -/
theorem setWidth_lowByte (p : BitVec 12) : (p.setWidth 8).setWidth 32 = (0#24 ++ p.extractLsb' 0 8 : W32) := by
  rw [BitVec.setWidth_eq_append (v := 8) (w := 32) (by decide), BitVec.setWidth_eq_extractLsb' (by decide)]
  rfl

/-- Settles O29: each is a read-only register of the Debug power domain, which no gate concerns. -/
theorem externalIdentification : Obligations.ExternalIdentification := by
  intro s mm hv c affinity snid nsnid reads
  have register {value : State → W32} (i : ExtOp → Bool → Instr)
      (hx : ∀ op, exec (i op mm) s = extReadOnly .debug op mm value s) : reads i (value s) :=
    extRuns_readOnly i hx hv (blocked_debug s)
  have devaff0 := register .extPmdevaff0 fun op => (rfl : execExtPmdevaff0 op mm s = _)
  have devaff1 := register .extPmdevaff1 fun op => (rfl : execExtPmdevaff1 op mm s = _)
  have authstatus := register .extPmauthstatus fun op => (rfl : execExtPmauthstatus op mm s = _)
  have devarch := register .extPmdevarch fun op => (rfl : execExtPmdevarch op mm s = _)
  have devid := register .extPmdevid fun op => (rfl : execExtPmdevid op mm s = _)
  have devtype := register .extPmdevtype fun op => (rfl : execExtPmdevtype op mm s = _)
  have pidr4 := register .extPmpidr4 fun op => (rfl : execExtPmpidr4 op mm s = _)
  have pidr0 := register .extPmpidr0 fun op => (rfl : execExtPmpidr0 op mm s = _)
  have pidr1 := register .extPmpidr1 fun op => (rfl : execExtPmpidr1 op mm s = _)
  have pidr2 := register .extPmpidr2 fun op => (rfl : execExtPmpidr2 op mm s = _)
  have pidr3 := register .extPmpidr3 fun op => (rfl : execExtPmpidr3 op mm s = _)
  have cidr0 := register .extPmcidr0 fun op => (rfl : execExtPmcidr0 op mm s = _)
  have cidr1 := register .extPmcidr1 fun op => (rfl : execExtPmcidr1 op mm s = _)
  have cidr2 := register .extPmcidr2 fun op => (rfl : execExtPmcidr2 op mm s = _)
  have cidr3 := register .extPmcidr3 fun op => (rfl : execExtPmcidr3 op mm s = _)
  rw [pmauthstatus_eq] at authstatus
  rw [setWidth_ofBool] at devid
  rw [BitVec.setWidth_eq_append (by decide)] at pidr4
  rw [setWidth_lowByte] at pidr0
  exact ⟨devaff0, devaff1, authstatus, devarch, devid, devtype, pidr4, pidr0, pidr1, pidr2, pidr3, cidr0, cidr1, cidr2,
    cidr3⟩

/-- Settles O32: no gate blocks PMITCTRL in either domain. -/
theorem externalItctrl : Obligations.ExternalItctrl := by
  intro s mm hv hdomain
  have value : pmitctrl s = if s.pmu.ime then 1 else 0 := setWidth_ofBool _
  rw [← value]
  obtain hd | ⟨hd, hu⟩ := hdomain
  · exact extRuns_plain (wr := writePmitctrl) .extPmitctrl (fun _ => by simp only [exec, execExtPmitctrl, hd]) hv
      (blocked_debug s)
  · exact extRuns_plain (wr := writePmitctrl) .extPmitctrl (fun _ => by simp only [exec, execExtPmitctrl, hd]) hv
      (blocked_unlocked hu).2

/-! ### The Software Lock (42_external R520, R521) -/

theorem writePmlar_pmu_of_lock (v : W32) (hm : mm = true) (hl : s.cfg.softwareLock = true) :
    (writePmlar mm v s).pmu = { s.pmu with slk := decide (v ≠ 0xC5ACCE55) } := by
  have key : (v != 0xC5ACCE55) = decide (v ≠ 0xC5ACCE55) :=
    Bool.eq_iff_iff.mpr (by rw [bne_iff_ne, decide_eq_true_iff])
  simp only [writePmlar, hm, hl, key, Bool.and_self, if_true]

theorem writePmlar_of_noLock (v : W32) (h : mm = false ∨ s.cfg.softwareLock = false) : writePmlar mm v s = s := by
  rcases h with h | h <;> simp [writePmlar, h]

/-- Neither a gate nor the lock stops a write of PMLAR. -/
theorem extRuns_pmlar_write (v : W32) (hv : ViewExists mm s) :
    ExtRuns (.extPmlar (.write v) mm) s .ok (writePmlar mm v s).pmu :=
  ⟨respond .ok (writePmlar mm v s), by simp only [exec, execExtPmlar, missingView_none hv],
    extDone_respond (by simp) (by simp) (by simp) (by simp) (by simp) (by simp) (by simp)⟩

theorem pmlsr_of_lock (hm : mm = true) (hl : s.cfg.softwareLock = true) :
    pmlsr mm s = (if s.pmu.slk then 2 else 0) ||| 1 := by
  simp only [pmlsr, hm, hl, Bool.and_self, if_true]
  cases s.pmu.slk <;> rfl

theorem pmlsr_of_noLock (h : mm = false ∨ s.cfg.softwareLock = false) : pmlsr mm s = 0 := by
  rcases h with h | h <;> simp [pmlsr, h]

/-- Settles O31, by the two cases of `writePmlar` and of `pmlsr`. -/
theorem softwareLockRegisters : Obligations.SoftwareLockRegisters := by
  refine ⟨⟨rfl, rfl⟩, fun s mm hv => ?_⟩
  obtain ⟨readStatus, writeStatus⟩ :=
    extRuns_readOnly .extPmlsr (fun op => (rfl : execExtPmlsr op mm s = _)) hv (blocked_debug s)
  refine ⟨fun v hm hl => ?locks, fun v h => ?ignored, ?readKey, fun hm hl => ?status, fun h => ?noStatus,
    writeStatus⟩
  case locks => exact writePmlar_pmu_of_lock v hm hl ▸ extRuns_pmlar_write v hv
  case ignored =>
    have write := extRuns_pmlar_write v hv
    rwa [writePmlar_of_noLock v h] at write
  case readKey =>
    have read := extAccess_read (rd := fun _ s => unknownWord s) (wr := fun _ s => s) hv (blocked_debug s)
    exact ⟨_, _, read, extDone_respond rfl rfl rfl rfl rfl rfl rfl⟩
  case status => exact pmlsr_of_lock hm hl ▸ readStatus
  case noStatus => exact pmlsr_of_noLock h ▸ readStatus

end Sys2Proof.Machine
end

section
/-! PROOFS. The gates and the Software Lock in front of every external register (O35, O36). A register's meaning is the
access procedure behind the register's gate (`exec_gateOf`), so which column stops an access is a fact about the gate alone. -/
namespace Sys2Proof.Machine

open Sys2Proof

variable {s : State} {mm : Bool} {r : ExtReg} {i : Instr}

/-! ### The gate of a register (42_external R483, R484) -/

/-- The columns that a register's usage-constraint table has. -/
def gateOf (c : Config) (r : ExtReg) : Gate :=
  if DebugDomain c r then .debug else if NoEpmadColumn c r then .coreOpen else .core

theorem exec_gateOf {op : ExtOp} (h : i.form = .ext r op.request mm) (hr : r ≠ .pmlar) :
    ∃ rd wr, exec i s = extAccess (gateOf s.cfg r) op mm rd wr s :=
  exec_ext s h hr

theorem ne_pmlar_of_core {c : Config} (hd : DebugDomain c r = false) : r ≠ .pmlar := by
  rintro rfl
  cases hd

theorem gateOf_ne_debug {c : Config} (hd : DebugDomain c r = false) : gateOf c r ≠ .debug := by
  unfold gateOf
  rw [hd, if_neg Bool.false_ne_true]
  split <;> nofun

theorem gateOf_eq_core {c : Config} (hd : DebugDomain c r = false) (hn : NoEpmadColumn c r = false) :
    gateOf c r = .core := by
  simp [gateOf, hd, hn]

theorem unlocked_iff (s : State) : Unlocked s ↔ (!s.env.powered || doubleLock s || s.ctl.oslk) = false := by
  simp only [Unlocked, doubleLock, Bool.or_eq_false_iff, Bool.and_eq_false_iff, Bool.not_eq_false', and_assoc, or_assoc]
  exact and_congr_right fun _ => and_comm

/-- Off, DLK or OSLK stops every access to the Core power domain. -/
theorem blocked_of_not_unlocked {g : Gate} (hg : g ≠ .debug) (h : ¬ Unlocked s) : blocked g s = some .quiet := by
  rw [unlocked_iff, Bool.not_eq_false] at h
  cases g
  case core => simp only [blocked, h, if_true]
  case coreOpen => simp only [blocked, h, if_true]
  case debug => exact absurd rfl hg

/-- EPMAD stops an access that no earlier column stops. -/
theorem blocked_core_of_not_allowed (hu : Unlocked s) (ha : ¬ Allowed s) : blocked .core s = some .epmad := by
  rw [(blocked_unlocked hu).1, if_neg (mt (allowExternal_iff s).mp ha)]

/-- No column stops an access: there is none, or Off, DLK and OSLK do not hold and EPMAD allows it or is no column. -/
theorem blocked_gateOf_none
    (h : DebugDomain s.cfg r = true ∨ (Unlocked s ∧ (Allowed s ∨ NoEpmadColumn s.cfg r = true))) :
    blocked (gateOf s.cfg r) s = none := by
  unfold gateOf
  by_cases hd : DebugDomain s.cfg r = true
  · rw [if_pos hd, blocked_debug]
  · obtain ⟨hu, ha⟩ := h.resolve_left hd
    obtain ⟨hcore, hopen⟩ := blocked_unlocked hu
    rw [if_neg hd]
    split
    · exact hopen
    · rw [hcore, if_pos ((allowExternal_iff s).mpr (ha.resolve_right ‹_›))]

/-- Settles O36: no gate stops the access, and the locked write is the access procedure's ignored one. -/
theorem softwareLockIgnoresWrites : Obligations.SoftwareLockIgnoresWrites := by
  intro i s r v mm hform hv hr hs hopen
  obtain ⟨rd, wr, hexec⟩ := exec_gateOf (s := s) (op := .write v) hform hr
  rw [hexec, extAccess_write hv (blocked_gateOf_none hopen), if_pos (locked_of_not_slkOpen hs)]
  rfl

/-! ### The answer Error (42_external R481, R486) -/

/-- A 32-bit or a 64-bit access that Off, DLK or OSLK stops. -/
theorem exec_of_not_unlocked {q : PcsrOp} (hform : i.form = .ext r q mm) (hv : ViewExists mm s)
    (hd : DebugDomain s.cfg r = false) (hu : ¬ Unlocked s)
    (h64 : q = .read64 → s.cfg.pcSample = true ∧ s.cfg.pmpcsr64 = true) :
    exec i s = .next { s with resp := .error } := by
  have word (op : ExtOp) (h : i.form = .ext r op.request mm) : exec i s = .next { s with resp := .error } := by
    obtain ⟨rd, wr, hexec⟩ := exec_gateOf (s := s) h (ne_pmlar_of_core hd)
    exact hexec.trans (extAccess_blocked hv (blocked_of_not_unlocked (gateOf_ne_debug hd) hu))
  cases q
  case read => exact word .read hform
  case write v => exact word (.write v) hform
  case read64 =>
    obtain ⟨alt, rfl⟩ := eq_pmpcsrLo_of_read64 hform
    obtain rfl := Option.some.inj (extInstr_of_form hform)
    obtain ⟨hp, h64⟩ := h64 rfl
    have hcond : (s.cfg.pcSample && s.cfg.pmpcsr64) = true := by rw [hp, h64]; rfl
    refine (if_pos hcond).trans ?_
    rw [extAccess_blocked hv (blocked_of_not_unlocked (g := .coreOpen) nofun hu)]
    rfl

theorem markSpmad_ctl (mm : Bool) (s : State) :
    (markSpmad mm s).ctl = { s.ctl with spmad := (markSpmad mm s).ctl.spmad } := rfl

/-- SPMAD, once set, stays set. -/
theorem markSpmad_keeps (h : s.ctl.spmad = true) : (markSpmad mm s).ctl.spmad = true := by
  cases mm
  case false => rfl
  case true => cases hc : s.cfg.spmadOnMemMapped <;> simp [markSpmad, bump, hc, h]

theorem markSpmad_sets (h : mm = false ∨ s.cfg.spmadOnMemMapped = .set) : (markSpmad mm s).ctl.spmad = true := by
  rcases h with h | h <;> simp [markSpmad, bump, h]

theorem markSpmad_unchanged (hm : mm = true) (h : s.cfg.spmadOnMemMapped = .unchanged) :
    (markSpmad mm s).ctl.spmad = s.ctl.spmad := by
  simp [markSpmad, bump, hm, h]

/-- A 32-bit access that EPMAD stops. -/
theorem exec_of_not_allowed {op : ExtOp} (hform : i.form = .ext r op.request mm) (hv : ViewExists mm s)
    (hd : DebugDomain s.cfg r = false) (hn : NoEpmadColumn s.cfg r = false) (hu : Unlocked s) (ha : ¬ Allowed s) :
    exec i s = .next (respond .error (markSpmad mm s)) := by
  obtain ⟨rd, wr, hexec⟩ := exec_gateOf (s := s) hform (ne_pmlar_of_core hd)
  rw [hexec, gateOf_eq_core hd hn]
  exact extAccess_blocked hv (blocked_core_of_not_allowed hu ha)

/-- Every request but the 64-bit read is a 32-bit one. -/
theorem exists_request {q : PcsrOp} (h : q ≠ .read64) : ∃ op : ExtOp, q = op.request := by
  cases q
  case read => exact ⟨.read, rfl⟩
  case write v => exact ⟨.write v, rfl⟩
  case read64 => exact absurd rfl h

/-- Settles O35, by the column that stops the access. -/
theorem externalGates : Obligations.ExternalGates := by
  intro i s r q mm hform hv hd
  refine ⟨fun hu h64 => exec_of_not_unlocked hform hv hd hu h64, fun hu ha hn h64 => ?epmad⟩
  case epmad =>
    obtain ⟨op, rfl⟩ := exists_request h64
    exact ⟨_, exec_of_not_allowed hform hv hd hn hu ha, rfl, rfl, rfl, rfl, rfl, markSpmad_ctl mm s, markSpmad_keeps,
      markSpmad_sets, markSpmad_unchanged, fun _ => rfl⟩

end Sys2Proof.Machine
end

section
/-! PROOFS. An external access does not depend on the PE, PMUSERENR or MDCR_EL2 (O37). `Disguised p u d` replaces the three.
Every operation that the external view uses commutes with it, so the access procedure does (`extAccess_disguise`); the
software increment reads HPMN and HPME, and commutes where MDCR_EL2 stays. -/
namespace Sys2Proof.Machine

open Sys2Proof

/-- What f does to the next state of an answer. -/
def mapNext (f : State → State) : Out → Out
  | .next s => .next (f s)
  | .fault r => .fault r
  | .refused r => .refused r

/-! ### The PMU under another PMUSERENR -/

def withUseren (u : UserEn) (p : Pmu) : Pmu := { p with useren := u }

/-- Something done to the counters below a limit commutes with what each single step commutes with. -/
theorem forCounters_comm {f : Nat → Pmu → Pmu} {g : Pmu → Pmu} (h : ∀ n p, f n (g p) = g (f n p)) (limit : Nat) (p : Pmu) :
    forCounters limit f (g p) = g (forCounters limit f p) := by
  induction limit with
  | zero => rfl
  | succ k ih => rw [forCounters_succ, forCounters_succ, ih, h]

theorem setEvcnt_withUseren (n : Nat) (v : W32) (u : UserEn) (p : Pmu) :
    setEvcnt n v (withUseren u p) = withUseren u (setEvcnt n v p) := by
  unfold setEvcnt
  split <;> rfl

theorem setEvtype_withUseren (n : Nat) (v : W32) (u : UserEn) (p : Pmu) :
    setEvtype n v (withUseren u p) = withUseren u (setEvtype n v p) := by
  unfold setEvtype
  split <;> rfl

theorem incrementEvent_withUseren (n k : Nat) (u : UserEn) (p : Pmu) :
    incrementEvent n k (withUseren u p) = withUseren u (incrementEvent n k p) := by
  have hc : evcntAt (withUseren u p) n = evcntAt p n := rfl
  unfold incrementEvent
  dsimp only
  rw [hc, setEvcnt_withUseren]
  split <;> rfl

section
variable {p : Pe} {u : UserEn} {d : W32} {s : State} {g : Gate} {op : ExtOp} {mm : Bool}

/-! ### The writes of the external view -/

/-- A change of the PMU that commutes with a change of PMUSERENR. -/
theorem disguised_withPmu {q q' : Pmu} (h : q' = withUseren u q) :
    { Disguised p u d s with pmu := q' } = Disguised p u d { s with pmu := q } := by
  rw [h]
  rfl

theorem writeEvcnt_disguised (n : Nat) (v : W32) :
    writeEvcnt n v (Disguised p u d s) = Disguised p u d (writeEvcnt n v s) :=
  disguised_withPmu (setEvcnt_withUseren n v u s.pmu)

theorem writeEvtype_disguised (n : Nat) (v : W32) :
    writeEvtype n v (Disguised p u d s) = Disguised p u d (writeEvtype n v s) :=
  disguised_withPmu (setEvtype_withUseren n _ u s.pmu)

theorem writePmcr_disguised (v : W32) (limit : Nat) :
    writePmcr v limit (Disguised p u d s) = Disguised p u d (writePmcr v limit s) := by
  have clear {q q' : Pmu} (h : q' = withUseren u q) : forCounters limit (fun n => setEvcnt n 0) q' =
      withUseren u (forCounters limit (fun n => setEvcnt n 0) q) := by
    rw [h, forCounters_comm (g := withUseren u) fun n q => setEvcnt_withUseren n 0 u q]
  refine disguised_withPmu ?_
  by_cases hc : v.getLsbD 2 = true <;> by_cases hp : v.getLsbD 1 = true
  all_goals simp only [hc, hp, if_true, if_false, Bool.false_eq_true]
  · exact clear rfl
  · rfl
  · exact clear rfl
  · rfl

theorem writePmlar_disguised (v : W32) : writePmlar mm v (Disguised p u d s) = Disguised p u d (writePmlar mm v s) := by
  have hc : (Disguised p u d s).cfg = s.cfg := rfl
  unfold writePmlar
  rw [hc]
  split <;> rfl

/-- Which counters a software increment hits is a matter of MDCR_EL2, which stays. -/
theorem softwareIncrement_disguised (v : W32) (limit : Nat) :
    softwareIncrement v limit (Disguised p u s.ctl.mdcr2 s) = Disguised p u s.ctl.mdcr2 (softwareIncrement v limit s) := by
  have hits : softwareIncrements (Disguised p u s.ctl.mdcr2 s) v = softwareIncrements s v := rfl
  have hpmu : (Disguised p u s.ctl.mdcr2 s).pmu = withUseren u s.pmu := rfl
  refine disguised_withPmu ?_
  rw [hits, hpmu]
  refine forCounters_comm (g := withUseren u) (fun n q => ?_) limit s.pmu
  split
  · exact incrementEvent_withUseren n 1 u q
  · rfl

theorem extSwinc_disguised (v : W32) :
    extSwinc v (Disguised p u s.ctl.mdcr2 s) = Disguised p u s.ctl.mdcr2 (extSwinc v s) :=
  congrArg (bump 1) (softwareIncrement_disguised (extSwincBits v s) s.cfg.n.val)

/-! ### The access procedure -/

theorem errorState_disguised (b : Blocked) :
    errorState b mm (Disguised p u d s) = Disguised p u d (errorState b mm s) := by
  cases b <;> rfl

theorem extAccess_disguised {rd : Bool → State → W32 × State} {wr : W32 → State → State}
    (hr : ∀ lock, rd lock (Disguised p u d s) = ((rd lock s).1, Disguised p u d (rd lock s).2))
    (hw : ∀ v, wr v (Disguised p u d s) = Disguised p u d (wr v s)) :
    extAccess g op mm rd wr (Disguised p u d s) = mapNext (Disguised p u d) (extAccess g op mm rd wr s) := by
  have hm : missingView mm (Disguised p u d s) = missingView mm s := rfl
  have hb : blocked g (Disguised p u d s) = blocked g s := rfl
  have hl : locked mm (Disguised p u d s) = locked mm s := rfl
  unfold extAccess
  rw [hm, hb, hl]
  split
  · rfl
  · split
    · exact congrArg _ (errorState_disguised _)
    · split
      · split
        · rfl
        · rw [hw]; rfl
      · rw [hr]; rfl

theorem extPlain_disguised {value : State → W32} {wr : W32 → State → State}
    (hv : value (Disguised p u d s) = value s := by rfl)
    (hw : ∀ v, wr v (Disguised p u d s) = Disguised p u d (wr v s) := by exact fun _ => rfl) :
    extPlain g op mm value wr (Disguised p u d s) = mapNext (Disguised p u d) (extPlain g op mm value wr s) :=
  extAccess_disguised (fun _ => by rw [hv]) hw

theorem extReadOnly_disguised {value : State → W32} (hv : value (Disguised p u d s) = value s := by rfl) :
    extReadOnly g op mm value (Disguised p u d s) = mapNext (Disguised p u d) (extReadOnly g op mm value s) :=
  extPlain_disguised hv

theorem reservedAccess_disguised :
    reservedAccess op mm (Disguised p u d s) = mapNext (Disguised p u d) (reservedAccess op mm s) :=
  extReadOnly_disguised

/-- A choice by a parameter of the implementation. -/
theorem ite_disguised {c : Prop} [Decidable c] {a b a' b' : Out} (ha : a' = mapNext (Disguised p u d) a)
    (hb : b' = mapNext (Disguised p u d) b) :
    (if c then a' else b') = mapNext (Disguised p u d) (if c then a else b) := by
  rw [ha, hb, apply_ite (mapNext (Disguised p u d))]

/-! ### The instructions -/

theorem execExtPmlar_disguised :
    execExtPmlar op mm (Disguised p u d s) = mapNext (Disguised p u d) (execExtPmlar op mm s) := by
  unfold execExtPmlar
  cases op with
  | read => exact extAccess_disguised (fun _ => rfl) fun _ => rfl
  | write v =>
    have hm : missingView mm (Disguised p u d s) = missingView mm s := rfl
    simp only [hm, writePmlar_disguised]
    cases missingView mm s <;> rfl

theorem execExtPmitctrl_disguised :
    execExtPmitctrl op mm (Disguised p u d s) = mapNext (Disguised p u d) (execExtPmitctrl op mm s) := by
  have hc : (Disguised p u d s).cfg = s.cfg := rfl
  unfold execExtPmitctrl
  rw [hc]
  cases s.cfg.itctrlDomain with
  | absent => exact reservedAccess_disguised
  | core => exact extPlain_disguised
  | debug => exact extPlain_disguised

theorem execExtPmswinc_disguised (hd : d = s.ctl.mdcr2) :
    execExtPmswinc op mm (Disguised p u d s) = mapNext (Disguised p u d) (execExtPmswinc op mm s) := by
  subst hd
  exact ite_disguised reservedAccess_disguised (extAccess_disguised (fun _ => rfl) extSwinc_disguised)

/-- A PC-sample register, a reserved word on a PE without PC sampling. -/
theorem sampled_disguised {value : State → W32} (b : Bool) (hv : value (Disguised p u d s) = value s := by rfl) :
    (if b then extReadOnly g op mm value (Disguised p u d s) else reservedAccess op mm (Disguised p u d s)) =
      mapNext (Disguised p u d) (if b then extReadOnly g op mm value s else reservedAccess op mm s) :=
  ite_disguised (extReadOnly_disguised hv) reservedAccess_disguised

/-- Every external access but the one that samples commutes with the disguise. -/
theorem exec_disguised {i : Instr} {r : ExtReg} {q : PcsrOp} (h : i.form = .ext r q mm) (hlo : ∀ alt, r ≠ .pmpcsrLo alt)
    (hd : r = .pmswinc → d = s.ctl.mdcr2) :
    exec i (Disguised p u d s) = mapNext (Disguised p u d) (exec i s) := by
  cases i <;> simp only [Instr.form, Form.ext.injEq, reduceCtorEq] at h <;> obtain ⟨rfl, -, rfl⟩ := h <;> unfold exec
  case extPmpcsrLo alt _ _ => exact absurd rfl (hlo alt)
  case extPmswinc => exact execExtPmswinc_disguised (hd rfl)
  case extPmlar => exact execExtPmlar_disguised
  case extPmitctrl => exact execExtPmitctrl_disguised
  case extPmevcntrn n _ _ =>
    exact ite_disguised (extPlain_disguised rfl (writeEvcnt_disguised n.toNat)) reservedAccess_disguised
  case extPmevtypern n _ _ =>
    exact ite_disguised (extAccess_disguised (fun _ => rfl) (writeEvtype_disguised n.toNat)) reservedAccess_disguised
  case extPmcr => exact extPlain_disguised rfl fun v => writePmcr_disguised v s.cfg.n.val
  case extPmpcsrHi | extPmcid1sr | extPmvidsr | extPmcid2sr => exact sampled_disguised s.cfg.pcSample
  case extPmccntrLo | extPmccntrHi | extPmccfiltr | extPmcntenset | extPmcntenclr | extPmintenset | extPmintenclr
      | extPmovsclr | extPmovsset =>
    exact extPlain_disguised
  case extReserved => exact reservedAccess_disguised
  all_goals exact extReadOnly_disguised

end

/-- Settles O37: the disguise commutes with the access, so it does with its next state. -/
theorem externalViewIgnoresThePe : Obligations.ExternalViewIgnoresThePe := by
  intro i s t r q mm p u d hform hlo hd ht
  rw [exec_disguised hform hlo hd, ht]
  rfl

end Sys2Proof.Machine
end

section
/-! PROOFS. The counting hardware: when counting is prohibited (O49), the event step (O47), the cycle step (O48), what stops
both (O52), and the interrupt request (O51). A counting step is the agenda's head given to the counters; it counts nothing
with the core off and is stuck in integration mode. -/
namespace Sys2Proof.Machine

open Sys2Proof

variable {s : State} {c : Ctx} {e : BitVec 16} {src : Source} {k : Nat}

/-! ### Prohibition (43_counting R548, R549, R575) -/

theorem secureProhibited_of_nonSecure (s : State) (h : c.secure = false) : secureProhibited s c = false := by
  simp [secureProhibited, h]

/-- Secure state is free of SPME without EL3, and with SPME = 1. -/
theorem secureProhibited_of_permitted (c : Ctx) (h : s.cfg.haveEL3 = false ∨ spme s = true) :
    secureProhibited s c = false := by
  obtain h | h := h <;> simp [secureProhibited, h]

/-- SUNIDEN opens Secure EL0 alone. -/
theorem secureProhibited_of_spme_clear (h3 : s.cfg.haveEL3 = true) (hspme : spme s = false) (hc : c.secure = true) :
    secureProhibited s c = !(c.el == .el0 && sunidenApplies s && suniden s) := by
  simp [secureProhibited, h3, hspme, hc]

/-- Away from EL2 the Secure prohibition alone decides. -/
theorem prohibition_of_not_el2 (s : State) (n : Nat) (h : c.el ≠ .el2) :
    prohibitedFor s n c = secureProhibited s c ∧ prohibitedForC s c = (effDp s && secureProhibited s c) ∧
      exporting s c = (effX s && !secureProhibited s c) := by
  have hel2 : el2Prohibited s c = false := by simp [el2Prohibited, h]
  simp [prohibitedFor, prohibitedForC, exporting, hel2]

theorem unprohibited_of_not_el2 (n : Nat) (h : c.el ≠ .el2) (hs : secureProhibited s c = false) :
    prohibitedFor s n c = false ∧ prohibitedForC s c = false ∧ exporting s c = effX s := by
  simpa [hs] using prohibition_of_not_el2 s n h

/-- At EL2, HPMD prohibits the counters below HPMN. -/
theorem prohibition_el2 (s : State) (n : Nat) :
    prohibitedFor s n .nonSecureEl2 = (s.cfg.haveEL2 && hpmd s && decide (n < effHpmn s)) ∧
      prohibitedForC s .nonSecureEl2 = (effDp s && (s.cfg.haveEL2 && hpmd s)) ∧
      exporting s .nonSecureEl2 = (effX s && !(s.cfg.haveEL2 && hpmd s)) := by
  have hs : secureProhibited s .nonSecureEl2 = false := secureProhibited_of_nonSecure s rfl
  have hel2 : el2Prohibited s .nonSecureEl2 = (s.cfg.haveEL2 && hpmd s) := by simp [el2Prohibited, Ctx.el]
  simp [prohibitedFor, prohibitedForC, exporting, hs, hel2]

/-- With EL2, a counter is below HPMN where it is not in the range reserved for EL2. -/
theorem lt_effHpmn_iff (n : Nat) (h : s.cfg.haveEL2 = true) : n < effHpmn s ↔ ¬ InEl2Range s n := by
  rw [← inEl2Range_iff, h, Bool.true_and, decide_eq_true_eq, Nat.not_le]

/-- Settles O49, by the prohibition of each Security state and that of EL2. -/
theorem prohibitionTable : Obligations.ProhibitionTable := by
  intro s n
  refine ⟨?nonSecure, ?hpmdSet, ?hpmdClear, ?spmeClear, ?permitted⟩
  case nonSecure =>
    rintro c (rfl | rfl) <;>
      exact unprohibited_of_not_el2 n (by decide) (secureProhibited_of_nonSecure s rfl)
  case hpmdSet =>
    intro h2 hset
    have hhpmd : hpmd s = true := hset
    obtain ⟨hfor, hforC, hexp⟩ := prohibition_el2 s n
    rw [hfor, hforC, hexp, ← lt_effHpmn_iff n h2]
    simp [h2, hhpmd, effDp]
  case hpmdClear =>
    intro hclear
    have hhpmd : hpmd s = false := hclear
    obtain ⟨hfor, hforC, hexp⟩ := prohibition_el2 s n
    rw [hfor, hforC, hexp]
    simp [hhpmd, effX]
  case spmeClear =>
    intro h3 hspme
    obtain ⟨hfor, hforC, hexp⟩ := prohibition_of_not_el2 (c := .secureEl0) s n (by decide)
    rw [hfor, hforC, hexp, secureProhibited_of_spme_clear h3 hspme rfl]
    refine ⟨rfl, rfl, by simp [Ctx.el, sunidenApplies, suniden, effX], fun c hc => ?_⟩
    have hs : secureProhibited s c = true := by
      obtain rfl | rfl := hc <;> exact secureProhibited_of_spme_clear h3 hspme rfl
    have hel2 : c.el ≠ .el2 := by obtain rfl | rfl := hc <;> decide
    simpa [hs, effDp] using prohibition_of_not_el2 s n hel2
  case permitted =>
    intro h c hc
    have hs : secureProhibited s c = false := secureProhibited_of_permitted c h
    obtain rfl | rfl | rfl := hc <;> exact unprohibited_of_not_el2 n (by decide) hs

/-! ### The event step (43_counting R553, R554) -/

/-- The thread match is the one the statements spell out. -/
theorem sourceMatches_iff (cfg : Config) (f : W32) (src : Source) :
    sourceMatches cfg f src = true ↔ src = .own ∨ (cfg.isMultithreaded = true ∧ f.getLsbD 25 = true) := by
  cases src <;> simp [sourceMatches]

/-- A counter counts an occurrence where it may count and the event is its own. -/
theorem countsEvent_iff (s : State) (e : BitVec 16) (c : Ctx) (src : Source) (n : Nat) :
    (n < s.cfg.n.val ∧ countsEvent s e c src n = true) ↔
      MayCount s c src n ∧ eventMatches s e n (evtypeAt s.pmu n) = true := by
  simp only [countsEvent, MayCount, Bool.and_eq_true, Bool.not_eq_true', enabled_iff, sourceMatches_iff]
  tauto

theorem eventMatches_of_not_open {n : Nat} {f : W32} (h : ¬ OpenEvent s.cfg (evtCount f)) :
    eventMatches s e n f = true ↔ e = evtCount f ∧ e ∈ s.cfg.events := by
  simp [eventMatches, mt (eventOpen_iff _ _).mp h]

/-- An event step increments the counters that count the event. -/
theorem eventStep_counted (s : State) (e : BitVec 16) (c : Ctx) (src : Source) (k : Nat) :
    Counted (fun n => MayCount s c src n ∧ eventMatches s e n (evtypeAt s.pmu n) = true) k s.pmu
      (eventStep e c src k s).pmu :=
  (counted_forCounters (countsEvent s e c src) k s.cfg.n.val (Nat.le_of_lt_succ s.cfg.n.isLt) s.pmu).congr
    (countsEvent_iff s e c src)

/-! ### The steps from the agenda (43_counting R540, R565) -/

theorem whilePowered_on (f : State → State) (h : s.env.powered = true) : whilePowered f s = f s := if_pos h

theorem whilePowered_off (f : State → State) (h : s.env.powered = false) : whilePowered f s = s := by
  simp [whilePowered, h]

/-- With the core on, an event step is refused where it is none. -/
theorem eventInput_refused (c : Ctx) (src : Source) (hp : s.env.powered = true) (h : e = 0 ∨ k = 0) :
    eventInput e c src k s = .refused .notAnEventStep := by
  have hnone : (e == 0 || k == 0) = true := by simpa using h
  rw [eventInput, hp, hnone, Bool.true_and, if_pos rfl]

theorem eventInput_delivered (c : Ctx) (src : Source) (hp : s.env.powered = true) (he : e ≠ 0) (hk : k ≠ 0) :
    eventInput e c src k s = .next (eventStep e c src k s) := by
  have hsome : (e == 0 || k == 0) = false := by simpa using ⟨he, hk⟩
  rw [eventInput, hsome, Bool.and_false, whilePowered_on _ hp]
  rfl

theorem eventInput_off (e : BitVec 16) (c : Ctx) (src : Source) (k : Nat) (hp : s.env.powered = false) :
    eventInput e c src k s = .next s := by
  simp [eventInput, hp, whilePowered_off]

/-- Settles O47: the step is the event step, and an event that is not open counts where it matches. -/
theorem eventStepCounts : Obligations.EventStepCounts := by
  intro s e c src k rest ha hime hp
  let t : State := { s with agenda := rest }
  have hstep : step s = eventInput e c src k t := step_eq_applyInput hime (nextInput_cons ha)
  rw [hstep]
  refine ⟨fun he hk => ?counts, eventInput_refused c src hp⟩
  refine ⟨eventStep e c src k t, _, eventInput_delivered c src hp he (by omega), eventStep_counted t e c src k,
    fun n hclosed => ?_, fun n hhit => hhit.1, rfl⟩
  exact and_congr_right fun _ => eventMatches_of_not_open hclosed

/-! ### The cycle step (43_counting R562, R563) -/

theorem countsCycle_iff (s : State) (c : Ctx) :
    countsCycle s c = true ↔ s.pmu.cnten.getLsbD 31 = true ∧ s.pmu.cr.e = true ∧ prohibitedForC s c = false ∧
      filterPass s.cfg s.pmu.ccfilt c = true := by
  simp [countsCycle, enabledC, and_assoc]

/-- A cycle step changes only the PMU. -/
theorem cycleStep_eq (c : Ctx) (s : State) : cycleStep c s = { s with pmu := (cycleStep c s).pmu } := by
  unfold cycleStep
  dsimp only
  split_ifs <;> rfl

theorem cycleStep_of_not_counts (h : countsCycle s c ≠ true) : cycleStep c s = s := if_neg h

/-- Without the prescaler every cycle counts. -/
theorem cycleStep_every (h : countsCycle s c = true) (hd : effLc s = true ∨ effD s = false) :
    cycleStep c s = { s with pmu := incrementCycle (effLc s) s.pmu } := by
  have hevery : (effLc s || !effD s) = true := by simpa using hd
  rw [cycleStep, if_pos h, if_pos hevery]

/-- With the prescaler a cycle moves the phase, and one that brings it to 0 counts. -/
theorem cycleStep_prescaled (h : countsCycle s c = true) (hlc : effLc s = false) (hd : effD s = true) :
    (cycleStep c s).pmu =
      if s.pmu.div64 = 63 then incrementCycle (effLc s) { s.pmu with div64 := 0 }
      else { s.pmu with div64 := s.pmu.div64 + 1 } := by
  have hwraps : s.pmu.div64 + 1 = 0 ↔ s.pmu.div64 = 63 := by bv_omega
  rw [cycleStep, if_pos h, if_neg (by simp [hlc, hd])]
  simp only [beq_iff_eq, hwraps]
  split_ifs with h63
  · rw [h63]; rfl
  · rfl

/-- Settles O48, by the three ways a cycle step ends. -/
theorem cycleStepCounts : Obligations.CycleStepCounts := by
  intro s c rest ha hime hp lc d counts
  let t : State := { s with agenda := rest }
  have hcounts : countsCycle t c = true ↔ counts := countsCycle_iff t c
  have hstep : step s = .next (cycleStep c t) :=
    calc step s
        = .next (whilePowered (cycleStep c) t) := step_eq_applyInput hime (nextInput_cons ha)
      _ = .next (cycleStep c t) := congrArg _ (whilePowered_on _ hp)
  refine ⟨cycleStep c t, hstep, cycleStep_eq c t, fun h => ?idle, fun h hevery => ?every, fun h hlc hd => ?prescaled⟩
  case idle => rw [cycleStep_of_not_counts (mt hcounts.mp h)]
  case every =>
    rw [cycleStep_every (hcounts.mpr h) hevery]
    exact incrementCycle_counted lc s.pmu
  case prescaled =>
    rw [cycleStep_prescaled (hcounts.mpr h) hlc hd]
    refine ⟨fun h63 => if_neg h63, fun h63 => ?_⟩
    rw [if_pos h63]
    exact incrementCycle_counted lc { s.pmu with div64 := 0 }

/-! ### What stops the counting steps (43_counting R565; 13_external R225) -/

/-- In integration mode the model is stuck on each input that is no reset and no power move. -/
theorem step_of_ime {i : Input} {rest : List Input} (ha : s.agenda = i :: rest) (hime : s.pmu.ime = true)
    (hi : survivesIntegration i = false) : step s = .fault .integrationMode := by
  simp [step, runStep, nextInput_cons ha, stuckInIntegration, hime, hi]

/-- Settles O52, for either counting step. -/
theorem nothingCountsWhenOff : Obligations.NothingCountsWhenOff := by
  intro s rest c e src k ha
  let t : State := { s with agenda := rest }
  obtain hcycle | hevent := ha
  · refine ⟨fun hime hoff => ?_, fun hime => step_of_ime hcycle hime rfl⟩
    calc step s
        = .next (whilePowered (cycleStep c) t) := step_eq_applyInput hime (nextInput_cons hcycle)
      _ = .next t := congrArg _ (whilePowered_off _ hoff)
  · refine ⟨fun hime hoff => ?_, fun hime => step_of_ime hevent hime rfl⟩
    calc step s
        = eventInput e c src k t := step_eq_applyInput hime (nextInput_cons hevent)
      _ = .next t := eventInput_off e c src k hoff

/-! ### The interrupt request (43_counting R570) -/

/-- A word is not zero where one of its bits is set. -/
theorem bne_zero_iff_getLsbD (v : W32) : (v != 0) = true ↔ ∃ n, n < 32 ∧ v.getLsbD n = true := by
  rw [bne_iff_ne, ne_eq, BitVec.eq_of_getLsbD_eq_iff]
  simp

/-- Settles O51: PMUIRQ is a word's being other than 0, read bit by bit. -/
theorem interruptRequestIsLevel : Obligations.InterruptRequestIsLevel := by
  intro s
  have hN := s.cfg.n.isLt
  rw [pmuIrq, bne_zero_iff_getLsbD]
  refine exists_congr fun n => ?_
  rw [BitVec.getLsbD_and, BitVec.getLsbD_and, Bool.and_eq_true, Bool.and_eq_true]
  constructor
  · rintro ⟨hn, ⟨hovs, hinten⟩, himpl⟩
    exact ⟨(getLsbD_implMask s.cfg hn).mp himpl, hovs, hinten⟩
  · rintro ⟨himpl, hovs, hinten⟩
    have hn : n < 32 := by omega
    exact ⟨hn, ⟨hovs, hinten⟩, (getLsbD_implMask s.cfg hn).mpr himpl⟩

end Sys2Proof.Machine
end

section
/-! PROOFS. The syndromes of trapped accesses (O44), the entry to an exception (O45), and the return that undoes an entry
(O46). After an entry to a level in AArch64 and the return from it, the PE is the one it was with the syndrome, the link and
the process state saved at that level (`saveAt`), so all the rest of the machine is as before. -/
namespace Sys2Proof.Machine

open Sys2Proof

variable {s : State}

/-! ### The fields of a syndrome (60_exceptions R593, R604 to R607) -/

/-- A concatenation as a sum: the upper part at its place, the lower part below it. -/
theorem toNat_append_eq_sum {m n : Nat} (x : BitVec m) (y : BitVec n) :
    (x ++ y).toNat = x.toNat * 2 ^ n + y.toNat := by
  rw [BitVec.toNat_append, ← Nat.shiftLeft_add_eq_or_of_lt y.isLt, Nat.shiftLeft_eq]

theorem toNat_direction (wr : Bool) : (BitVec.ofBool (!wr)).toNat = if wr then 0 else 1 := by cases wr <;> rfl

theorem toNat_syndrome (ec : BitVec 6) (iss : BitVec 25) :
    (syndrome ec iss).toNat = ec.toNat * 2 ^ 26 + 2 ^ 25 + iss.toNat := by
  rw [syndrome, toNat_append_eq_sum, toNat_append_eq_sum, BitVec.toNat_ofNat]
  omega

theorem toNat_iss64 (k : Sel64) (wr : Bool) (t : BitVec 5) :
    (iss64 k wr t).toNat =
      k.op0.toNat * 2 ^ 20 + k.op2.toNat * 2 ^ 17 + k.op1.toNat * 2 ^ 14 + k.crn.toNat * 2 ^ 10 + t.toNat * 2 ^ 5 +
        k.crm.toNat * 2 + (if wr then 0 else 1) := by
  simp only [iss64, toNat_append_eq_sum, toNat_direction, BitVec.toNat_ofNat]
  omega

/-- CV and COND of an instruction whose condition is reported. -/
theorem condFields_of_reported (c : BitVec 4) (h : s.pe.ps.t32 = false ∨ s.cfg.t32CV = true) :
    condFields s c = (1, if s.cfg.condPresentation = .alwaysAL then 14 else appliedCondition s c) := by
  rcases h with h | h <;> simp [condFields, h]

theorem condFields_cv_unreported (c : BitVec 4) (ht : s.pe.ps.t32 = true) (hcv : s.cfg.t32CV = false) :
    (condFields s c).1 = 0 := by
  simp [condFields, ht, hcv]

/-- R0 to R12 are X0 to X12. -/
theorem toNat_view64 {t : BitVec 4} (h : t.toNat ≤ 12) : (view64 s t).toNat = t.toNat := by
  rw [view64, if_pos h, BitVec.toNat_setWidth]
  omega

/-- EC, IL, CV and COND of a trapped AArch32 access. -/
def syndromeHead (s : State) (c : BitVec 4) (ec : Nat) : Nat :=
  ec * 2 ^ 26 + 2 ^ 25 + (condFields s c).1.toNat * 2 ^ 24 + (condFields s c).2.toNat * 2 ^ 20

section
variable (s) (k : Sel32) (wr : Bool) (c t t2 : BitVec 4)

theorem toNat_esr32_single : (esr32 s (.single k wr c t)).toNat =
    syndromeHead s c 0b000011 + k.opc2.toNat * 2 ^ 17 + k.opc1.toNat * 2 ^ 14 + k.crn.toNat * 2 ^ 10 +
      (view64 s t).toNat * 2 ^ 5 + k.crm.toNat * 2 + (if wr then 0 else 1) := by
  simp only [esr32, syndromeHead, toNat_syndrome, toNat_append_eq_sum, toNat_direction, BitVec.reduceToNat]
  omega

theorem toNat_esr32_wide : (esr32 s (.wide wr c t t2)).toNat =
    syndromeHead s c 0b000100 + (view64 s t2).toNat * 2 ^ 10 + (view64 s t).toNat * 2 ^ 5 + 9 * 2 +
      (if wr then 0 else 1) := by
  simp only [esr32, syndromeHead, toNat_syndrome, toNat_append_eq_sum, toNat_direction, BitVec.reduceToNat]
  omega

theorem toNat_hsr32_single : (hsr32 s (.single k wr c t)).toNat =
    syndromeHead s c 0b000011 + k.opc2.toNat * 2 ^ 17 + k.opc1.toNat * 2 ^ 14 + k.crn.toNat * 2 ^ 10 +
      t.toNat * 2 ^ 5 + k.crm.toNat * 2 + (if wr then 0 else 1) := by
  simp only [hsr32, syndromeHead, toNat_syndrome, toNat_append_eq_sum, toNat_direction, BitVec.reduceToNat]
  omega

theorem toNat_hsr32_wide : (hsr32 s (.wide wr c t t2)).toNat =
    syndromeHead s c 0b000100 + t2.toNat * 2 ^ 10 + t.toNat * 2 ^ 5 + 9 * 2 + (if wr then 0 else 1) := by
  simp only [hsr32, syndromeHead, toNat_syndrome, toNat_append_eq_sum, toNat_direction, BitVec.reduceToNat]
  omega

end

/-- Settles O44, from the sums of the single syndromes and the two ways CV and COND are reported. -/
theorem syndromesOfTrappedAccesses : Obligations.SyndromesOfTrappedAccesses := by
  refine ⟨fun k wr t => ⟨toNat_iss64 k wr t, toNat_syndrome _ _⟩, fun s k wr c t t2 => ?_⟩
  refine ⟨fun hrep => ?reported, fun ht hcv => ?unreported, toNat_view64, toNat_esr32_single s k wr c t,
    toNat_esr32_wide s wr c t t2, toNat_hsr32_single s k wr c t, toNat_hsr32_wide s wr c t t2⟩
  case reported =>
    rw [condFields_of_reported c hrep]
    exact ⟨rfl, fun hp => by simp [hp, appliedCondition], fun hp => by simp [hp]⟩
  case unreported => rw [condFields_cv_unreported c ht hcv]; rfl

/-! ### The entry (60_exceptions R590, R593, R620) -/

theorem takeException_trapped (x : Exc) (s : State) : Trapped s (takeException x s) x :=
  ⟨takeException_exc x s, takeException_pmu x s, takeException_ctl x s, takeException_cfg x s, takeException_env x s,
    takeException_pe_x x s, takeException_pe_r x s, takeException_agenda x s, takeException_resp x s, fun _ => rfl⟩

/-- Undefined mode is a mode of EL3 in Secure state with EL3 using AArch32. -/
theorem undefinedModeEL_of_secure32 (h : isSecure s = true ∧ s.cfg.haveEL3 = true ∧ s.pe.aa32El3 = true) :
    undefinedModeEL s = .el3 := by
  obtain ⟨hsec, hhave, h32⟩ := h
  simp [undefinedModeEL, hsec, hhave, h32]

theorem undefinedModeEL_otherwise (h : ¬ (isSecure s = true ∧ s.cfg.haveEL3 = true ∧ s.pe.aa32El3 = true)) :
    undefinedModeEL s = .el1 :=
  if_neg (by simpa [and_assoc] using h)

/-- An entry leaves the context registers but on the way to Undefined mode at EL3. -/
theorem entryCtl_unchanged {x : Exc} (h : x ≠ .toUndefined ∨ undefinedModeEL s = .el1) : entryCtl x s = s.ctl := by
  cases x with
  | toAArch64 _ _ => rfl
  | toHyp _ => rfl
  | toUndefined =>
    have hel : undefinedModeEL s = .el1 := h.resolve_left fun hne => hne rfl
    simp [entryCtl, hel]

theorem entryCtl_toUndefined_el3 (h : undefinedModeEL s = .el3) :
    entryCtl .toUndefined s = { s.ctl with scr := s.ctl.scr &&& 0xFFFFFFFE } := by
  simp [entryCtl, h]

theorem undefinedLink_a32 (h : s.pe.ps.t32 = false) : undefinedLink s = s.pe.pc.setWidth 32 + 4#32 := by
  simp [undefinedLink, h]

/-- Settles O45: an entry saves and enters by its definition; the level of Undefined mode says the rest. -/
theorem exceptionEntry : Obligations.ExceptionEntry := by
  intro s esr toEl3
  have hsecure : toEl3 → undefinedModeEL s = .el3 := undefinedModeEL_of_secure32
  have hother : ¬ toEl3 → undefinedModeEL s = .el1 := undefinedModeEL_otherwise
  exact ⟨fun x => takeException_trapped x s, fun x hx => entryCtl_unchanged (hx.imp_right hother),
    fun h3 => entryCtl_toUndefined_el3 (hsecure h3), rfl, rfl, rfl, ⟨rfl, rfl⟩,
    ⟨rfl, undefinedLink_a32, rfl, hsecure, hother⟩⟩

/-! ### The return (60_exceptions R593, R620, R621) -/

/-- What can occur depends on the parameters, the context registers, the process state and the Execution states. -/
theorem legalProcess_congr {s' : State} (hc : s'.cfg = s.cfg) (ht : s'.ctl = s.ctl) (hps : s'.pe.ps = s.pe.ps)
    (h0 : s'.pe.aa32El0 = s.pe.aa32El0) (h1 : s'.pe.aa32El1 = s.pe.aa32El1) (h2 : s'.pe.aa32El2 = s.pe.aa32El2)
    (h3 : s'.pe.aa32El3 = s.pe.aa32El3) : legalProcess s' = legalProcess s := by
  have hel : currentEL s' = currentEL s := by rw [currentEL, currentEL, hps]
  have huses : usesAArch32 s' = usesAArch32 s := by funext el; cases el <;> assumption
  have hns : scrNs s' = scrNs s := by rw [scrNs, scrNs, ht]
  have htge : tgeReroutes s' = tgeReroutes s := by
    simp only [tgeReroutes, isSecure, secureAt, hcrTge, hc, ht, hel, hns]
  have hexec (el : EL) : execFits s' el = execFits s el := by simp only [execFits, hc, huses]
  have horder : execOrdered s' = execOrdered s := by simp only [execOrdered, hc, h0, h1, h2, h3]
  have hrw : rwAgrees s' = rwAgrees s := rwAgrees_congr hc (by rw [ht]) (by rw [ht]) h0 h1 h2 h3
  have hmode : modeFits s' = modeFits s := by simp only [modeFits, inAArch32, hc, hps, hel, huses, hns, h3]
  simp only [legalProcess, hc, hel, hns, htge, hexec, horder, hrw, hmode]

/-- ELR_ELx, ELR_hyp for EL2. -/
def linkAt (p : Pe) : EL → W64
  | .el0 => p.pc
  | .el1 => p.elr1
  | .el2 => p.elr2
  | .el3 => p.elr3

/-- SPSR_ELx, SPSR_hyp for EL2. -/
def statusAt (p : Pe) : EL → Proc
  | .el0 => p.ps
  | .el1 => p.spsr1
  | .el2 => p.spsr2
  | .el3 => p.spsr3

/-- In AArch64 the return is to what is saved at the level returned from. -/
theorem exceptionReturn_aarch64 {el : EL} (pc : W64) (ps : Proc) (hel : currentEL s = el) (h0 : el ≠ .el0)
    (h64 : inAArch32 s = false) :
    exceptionReturn pc ps s = returnTo (linkAt s.pe el) (statusAt s.pe el) (forgetSyndrome s) := by
  unfold exceptionReturn
  rw [hel, h64]
  cases el with
  | el0 => contradiction
  | el1 | el2 | el3 => rfl

/-- The state a return leads to: that of the PE's registers p, the return instruction retired. -/
def returned (p : Pe) (s : State) : State := { s with pe := p, env := { s.env with retired := true }, exc := none }

theorem returnTo_legal {pc : W64} {ps : Proc} (hlevel : ps.el.level ≤ (currentEL s).level)
    (hlegal : legalProcess (returned { s.pe with pc := pc, ps := ps } s) = true) :
    returnTo pc ps s = .next (bump 2 (hsrUnknown (returned { s.pe with pc := pc, ps := ps } s))) :=
  if_pos (by rw [decide_eq_true hlevel]; exact hlegal)

theorem currentEL_takeException_toAArch64 (target : EL) (esr : W32) (s : State) :
    currentEL (takeException (.toAArch64 target esr) s) = target := rfl

theorem inAArch32_takeException_toAArch64 (target : EL) (esr : W32) (s : State) :
    inAArch32 (takeException (.toAArch64 target esr) s) = usesAArch32 s target := by
  cases target <;> rfl

/-- What the return from an entry leaves: the saved state of the level, with an unknown syndrome. -/
def undone (target : EL) (s : State) : State :=
  returned (saveAt s.pe target ((draw s 5).setWidth 32)) { s with freeCtr := s.freeCtr + 4 }

/-- The pc and the process state saved by an entry are put back over the entry's own. -/
theorem returned_forgetSyndrome_takeException {target : EL} (esr : W32) (s : State) (h0 : target ≠ .el0) :
    let e := takeException (.toAArch64 target esr) s
    returned { (forgetSyndrome e).pe with pc := linkAt e.pe target, ps := statusAt e.pe target } (forgetSyndrome e) =
      undone target s := by
  cases target with
  | el0 => contradiction
  | el1 | el2 | el3 => rfl

theorem statusAt_takeException {target : EL} (esr : W32) (s : State) (h0 : target ≠ .el0) :
    statusAt (takeException (.toAArch64 target esr) s).pe target = s.pe.ps := by
  cases target with
  | el0 => contradiction
  | el1 | el2 | el3 => rfl

/-- Saving at a level leaves the process state and the Execution states. -/
theorem legalProcess_undone (target : EL) (s : State) : legalProcess (undone target s) = legalProcess s := by
  cases target <;> exact legalProcess_congr rfl rfl rfl rfl rfl rfl rfl

/-- An entry to a level in AArch64 and the return from it. -/
theorem exceptionReturn_takeException {target : EL} (esr : W32) (pc : W64) (ps : Proc) (h0 : target ≠ .el0)
    (h64 : usesAArch32 s target = false) (hlevel : (currentEL s).level ≤ target.level) (hlegal : legalProcess s = true) :
    exceptionReturn pc ps (takeException (.toAArch64 target esr) s) = .next (bump 2 (hsrUnknown (undone target s))) := by
  let e := takeException (.toAArch64 target esr) s
  have hundone := returned_forgetSyndrome_takeException esr s h0
  have hel : currentEL (forgetSyndrome e) = target := by
    rw [currentEL, forgetSyndrome_pe]
    exact currentEL_takeException_toAArch64 target esr s
  calc exceptionReturn pc ps e
      = returnTo (linkAt e.pe target) (statusAt e.pe target) (forgetSyndrome e) :=
        exceptionReturn_aarch64 pc ps (currentEL_takeException_toAArch64 target esr s) h0
          ((inAArch32_takeException_toAArch64 target esr s).trans h64)
    _ = .next (bump 2 (hsrUnknown (undone target s))) := by
        rw [returnTo_legal, hundone]
        · rw [statusAt_takeException esr s h0, hel]
          exact hlevel
        · rw [hundone, legalProcess_undone]
          exact hlegal

/-- HSR alone can become unknown. -/
theorem hsrUnknown_eq (s : State) : hsrUnknown s = { s with pe := { s.pe with esr2 := (hsrUnknown s).pe.esr2 } } := by
  unfold hsrUnknown
  split <;> rfl

theorem hsrUnknown_pe_esr1 (s : State) : (hsrUnknown s).pe.esr1 = s.pe.esr1 := by rw [hsrUnknown_pe]

theorem hsrUnknown_pe_esr3 (s : State) : (hsrUnknown s).pe.esr3 = s.pe.esr3 := by rw [hsrUnknown_pe]

theorem hsrUnknown_known (h : ¬ (s.cfg.haveEL2 = true ∧ s.pe.aa32El2 = true ∧ isSecure s = false ∧ currentEL s ≠ .el2)) :
    hsrUnknown s = s :=
  if_neg (by simpa [and_assoc] using h)

/-- Saving at a level changes that level's link and process state, and its syndrome. -/
theorem saveAt_eq {target : EL} (p : Pe) (esr : W32) (h0 : target ≠ .el0) :
    saveAt p target esr = { p with
      esr1 := if target = .el1 then esr else p.esr1
      esr2 := if target = .el2 then esr else p.esr2
      esr3 := if target = .el3 then esr else p.esr3
      elr1 := if target = .el1 then p.pc else p.elr1
      elr2 := if target = .el2 then p.pc else p.elr2
      elr3 := if target = .el3 then p.pc else p.elr3
      spsr1 := if target = .el1 then p.ps else p.spsr1
      spsr2 := if target = .el2 then p.ps else p.spsr2
      spsr3 := if target = .el3 then p.ps else p.spsr3 } := by
  cases target with
  | el0 => contradiction
  | el1 | el2 | el3 => rfl

/-- Settles O46: the entry and the return leave `saveAt` of the PE, in which HSR can be unknown. -/
theorem returnUndoesEntry : Obligations.ReturnUndoesEntry := by
  intro s target esr pc ps h0 h64 hlevel hlegal
  have hpe : (undone target s).pe = saveAt s.pe target ((draw s 5).setWidth 32) := rfl
  rw [saveAt_eq _ _ h0] at hpe
  refine ⟨_, exceptionReturn_takeException esr pc ps h0 h64 hlevel hlegal, ?state, fun h1 => ?esr1, fun h3 => ?esr3,
    fun h2 hknown => ?esr2⟩
  case state =>
    rw [hsrUnknown_eq, undone, returned, saveAt_eq _ _ h0]
    rfl
  case esr1 => simp [hsrUnknown_pe_esr1, hpe, h1]
  case esr3 => simp [hsrUnknown_pe_esr3, hpe, h3]
  case esr2 =>
    have hsame : hsrUnknown (undone target s) = undone target s := hsrUnknown_known (by
      cases target <;> exact hknown)
    simp [hsame, hpe, h2]

end Sys2Proof.Machine
end

section
/-! PROOFS. What the resets and the power moves do (O53, O54), and the machine after reset (O59). No reset is stopped by
integration mode, so the step is the reset itself; its fields are those of `warmPmu`, `warmCtl` and `resetPe`. -/
namespace Sys2Proof.Machine

open Sys2Proof

variable {s : State} {into : ExecState}

/-! ### The step on a reset or a power move -/

/-- Integration mode stops no reset and no power move (13_external R225). -/
theorem step_of_survivesIntegration {i : Input} {rest : List Input} (ha : s.agenda = i :: rest)
    (hi : survivesIntegration i = true) : step s = applyInput i { s with agenda := rest } := by
  simp [step, runStep, nextInput_cons ha, stuckInIntegration, hi]

/-- A reset into an Execution state that the highest level can use takes place (70_reset R651). -/
theorem resetInto_of_fits (f : State → State) (h : resetIntoFits s.cfg into = true) : resetInto into f s = .next (f s) :=
  if_pos h

/-- An input that is a reset f of the state t. -/
theorem step_of_resetInto {i : Input} {rest : List Input} {f : State → State} {t : State} (ha : s.agenda = i :: rest)
    (hi : survivesIntegration i = true) (hr : applyInput i { s with agenda := rest } = resetInto into f t)
    (hfits : resetIntoFits t.cfg into = true) : step s = .next (f t) :=
  calc step s
      = applyInput i { s with agenda := rest } := step_of_survivesIntegration ha hi
    _ = resetInto into f t := hr
    _ = .next (f t) := resetInto_of_fits f hfits

/-! ### What a Warm reset sets (70_reset R653, R654) -/

/-- PMCR.LC is RES1 where no level can use AArch32. -/
theorem warmPmu_lc (h : anyAArch32 s.cfg = false) : (warmPmu into s).cr.lc = true := by simp [warmPmu, h]

/-- What only a reset into AArch32 clears in the PMU. -/
theorem warmPmu_aarch32 (s : State) : (warmPmu .aarch32 s).cr.dp = false ∧ (warmPmu .aarch32 s).cr.x = false ∧
    (warmPmu .aarch32 s).cr.d = false ∧ (warmPmu .aarch32 s).ccfilt = 0 ∧
    (warmPmu .aarch32 s).useren = ⟨false, false, false, false⟩ :=
  ⟨rfl, rfl, rfl, rfl, rfl⟩

theorem warmCtl_dlk_aarch64 (s : State) : (warmCtl .aarch64 s).dlk = false := rfl

/-- SCR.NS is bit 0, which the reset masks out. -/
theorem warmCtl_ns (into : ExecState) (s : State) : (warmCtl into s).scr.getLsbD 0 = false :=
  getLsbD_masked (unkWord s 20) (~~~1#32) 0 (by decide)

theorem warmReset_esr2 (h : s.cfg.haveEL2 = false) : (warmReset into s).pe.esr2 = 0 := by
  rw [warmReset_pe]
  exact if_neg (by simp [h])

theorem currentEL_warmReset (into : ExecState) (s : State) : currentEL (warmReset into s) = highestEL s.cfg := by
  rw [currentEL, warmReset_pe]
  rfl

theorem warmReset_pc (into : ExecState) (s : State) :
    (warmReset into s).pe.pc = if into == .aarch32 then s.cfg.resetVector32.setWidth 64 else s.cfg.resetVector64 := by
  rw [warmReset_pe]
  exact resetPe_pc into s

/-- Settles O53: the step is the Warm reset, and its PMU, context registers and PE have each their values. -/
theorem warmResetValues : Obligations.WarmResetValues := by
  intro s into rest ha hfits
  let t : State := { s with agenda := rest }
  have hstep : step s = .next (warmReset into t) := step_of_resetInto ha rfl rfl hfits
  have hpmu : (warmReset into t).pmu = warmPmu into t := warmReset_pmu into t
  have hctl : (warmReset into t).ctl = warmCtl into t := warmReset_ctl into t
  obtain ⟨hhpmn, hhpmd, hspme, hepmad⟩ := warmCtl_bits into t
  refine ⟨warmReset into t, hstep, warmReset_cfg into t, warmReset_agenda into t, ?_⟩
  rw [hpmu, hctl]
  refine ⟨warmPmu_e into t, warmPmu_lc, hhpmn, hhpmd, hspme, hepmad, warmCtl_ns into t, warmReset_esr2, ?aarch32,
    ?aarch64, warmPmu_slk into t, warmPmu_ime into t, warmPmu_pcsr into t, warmPmu_cid1 into t, warmPmu_cid2 into t,
    warmPmu_vid into t, warmCtl_oslk into t, warmCtl_corenpdrq into t, warmCtl_spmad into t, currentEL_warmReset into t,
    ?pc64, ?pc32, ?mem⟩
  case aarch32 => rintro rfl; exact warmPmu_aarch32 t
  case aarch64 => rintro rfl; exact warmCtl_dlk_aarch64 t
  case pc64 => rintro rfl; exact warmReset_pc .aarch64 t
  case pc32 => rintro rfl; exact warmReset_pc .aarch32 t
  case mem => intro a; rw [warmReset_mem]

/-! ### Cold reset, power and External debug reset (70_reset R652, R653) -/

/-- The part of a Cold reset that draws PMPCSR leaves its reserved bits [60:56] clear (13_external R250). -/
theorem coldReset_pcsr_reserved (into : ExecState) (s : State) : (coldReset into s).pmu.pcsr.extractLsb' 56 5 = 0 := by
  have hpcsr : (coldReset into s).pmu.pcsr = draw (warmReset into s) 0 &&& (pcsrHiMask ++ 0xFFFFFFFF#32) := rfl
  have hmask : (pcsrHiMask ++ 0xFFFFFFFF#32 : W64).extractLsb' 56 5 = 0 := by decide
  rw [hpcsr, BitVec.extractLsb'_and, hmask]
  exact BitVec.and_zero

/-- What a Cold reset sets beside a Warm reset, and what it keeps. -/
theorem coldReset_values (into : ExecState) (s : State) :
    let s' := coldReset into s
    s'.pmu.cr.e = false ∧ s'.ctl.oslk = true ∧ s'.ctl.spmad = false ∧ s'.pmu.pcsr.extractLsb' 56 5 = 0 ∧
      (s'.ctl.mdcr2.extractLsb' 0 5).toNat = s.cfg.n.val ∧ s'.pmu.slk = s.pmu.slk ∧
      s'.pmu.ime = (if s.cfg.itctrlDomain = .core then false else s.pmu.ime) := by
  obtain ⟨hhpmn, -⟩ := warmCtl_bits into s
  refine ⟨?e, ?oslk, ?spmad, coldReset_pcsr_reserved into s, ?hpmn, ?slk, ?ime⟩
  case e => rw [coldReset_pmu]; simp only [warmPmu_e]
  case oslk => rw [coldReset_ctl]
  case spmad => rw [coldReset_ctl]
  case hpmn => rw [coldReset_ctl]; exact hhpmn
  case slk => rw [coldReset_pmu]; simp only [warmPmu_slk]
  case ime => rw [coldReset_pmu]; simp only [beq_iff_eq]

/-- Settles O54: a Cold reset and the loss of power are `coldReset`; the other three inputs are their definitions. -/
theorem coldAndExternalDebugReset : Obligations.ColdAndExternalDebugReset := by
  intro s into rest
  let t : State := { s with agenda := rest }
  refine ⟨fun ha hfits => ?cold, fun ha => ?retained, fun ha => ?down, fun ha => ?debug⟩
  case cold =>
    obtain hcold | hlost := ha
    · exact ⟨coldReset into t, step_of_resetInto hcold rfl rfl hfits, coldReset_values into t⟩
    · let powered : State := { t with env := { t.env with powered := true } }
      exact ⟨coldReset into powered, step_of_resetInto hlost rfl rfl hfits, coldReset_values into powered⟩
  case retained => exact step_of_survivesIntegration ha rfl
  case down => exact step_of_survivesIntegration ha rfl
  case debug =>
    have hstep : step s = .next (externalDebugReset t) := step_of_survivesIntegration ha rfl
    simpa only [externalDebugReset, beq_iff_eq] using hstep

/-! ### The machine after reset (10_state R32) -/

/-- The counters of the reset state, those that do not exist among them, hold 0. -/
theorem evcntAt_reset (n : Nat) : evcntAt Pmu.reset n = 0 := by
  unfold evcntAt
  split
  · exact Vector.getElem_replicate _
  · rfl

theorem evtypeAt_reset (n : Nat) : evtypeAt Pmu.reset n = 0 := by
  unfold evtypeAt
  split
  · exact Vector.getElem_replicate _
  · rfl

/-- The reset PMU holds only zeros where the invariant reads it, whatever the parameters. -/
theorem pmuInv_resetOf (c : Config) : PmuInv c (State.resetOf c).pmu := by
  have hty (n : Nat) : evtypeAt (State.resetOf c).pmu n = 0 := evtypeAt_reset n
  have hcnt (n : Nat) : evcntAt (State.resetOf c).pmu n = 0 := evcntAt_reset n
  refine ⟨within_zero _, within_zero _, within_zero _, within_zero _, BitVec.zero_and, fun n _ => ?_,
    fun n _ => ⟨hty n, hcnt n⟩⟩
  rw [hty]
  exact within_zero _

/-- HPMN = N is the only field of the context registers that the invariant reads and that is not 0. -/
theorem ctlInv_reset (c : Config) : CtlInv c (Ctl.reset c) :=
  ⟨within_hpmn c.n.isLt, within_zero _, within_zero _, within_zero _⟩

theorem stateInv_reset : StateInv State.reset :=
  ⟨by decide, pmuInv_resetOf Config.cfgA, ctlInv_reset Config.cfgA, rfl, by decide⟩

/-- Settles O59: the invariant is `stateInv_reset`, each reset value that of `State.resetOf`. -/
theorem resetState : Obligations.ResetState :=
  ⟨stateInv_reset, rfl, by decide, by decide, by decide, by decide, by decide, rfl, rfl, rfl, rfl, rfl, rfl, rfl⟩

end Sys2Proof.Machine
end
